-- ==== Sys2Proof/Word.lean ====
section
/-! DEFINITION. The word types of the hub: what the manual treats as bits is a bit vector, an identity is a Fin. -/

namespace Sys2Proof

/-- One byte of a frame (R163). -/
abbrev Byte := BitVec 8

/-- A two-byte field: host id, label, subject, an index as a frame carries it (R164). -/
abbrev Half := BitVec 16

/-- A four-byte field: version, stamp, detail, a counter that wraps (R164). -/
abbrev Word := BitVec 32

/-- An eight-byte field: a cell's value, a FETCH_ADD delta (R1, R9). -/
abbrev Quad := BitVec 64

/-- Hub-clock milliseconds (R144). -/
abbrev Clock := BitVec 32

/-- The host's label of a request (R155). -/
abbrev Tag := BitVec 8

/-- A link, 0 to 7; a session is named by its link. -/
abbrev Link := Fin 8

/-- A cell's identity, 0 to 1023 (R1). -/
abbrev CellIx := Fin 1024

/-- A queue's identity, 0 to 31 (R75). -/
abbrev QueueIx := Fin 32

end Sys2Proof
end

