-- ==== Sys2Proof/Syntax.lean ====
section
/-! DEFINITION. The commands of the hub: one constructor of `Instr` for each row of spec/opcode_table.json, and the requests
that hosts send as frames (section 10.5), with their fields as the frame gives them. -/

namespace Sys2Proof

/-- The rate straps RATE1, RATE0 as sampled when RSTn rises (spec/00, pins). -/
inductive LineRate where
  | r115200 | r460800 | r1000000 | r3000000
deriving DecidableEq, Repr

/-- Cell class of SET_CELL_CLASS (R1, R166). `openAll` is the manual's OPEN. -/
inductive CellClass where
  | openAll | adminWrite | owned
deriving DecidableEq, Repr

/-- Overflow policy of a queue (R75). -/
inductive Overflow where
  | refuse | dropOldest
deriving DecidableEq, Repr

/-- Fault class (R120). -/
inductive FaultClass where
  | form | range | access | state | capacity | integrity
deriving DecidableEq, Repr

/-- Fault policy (R122). -/
inductive FaultPolicy where
  | refuse | absorb | forward
deriving DecidableEq, Repr

/-- Scope of HUB_RESET (R147). -/
inductive Scope where
  | clear | keepCells
deriving DecidableEq, Repr

/-- A request that has passed the body checks of R167, its fields as its frame gives them (R169). -/
inductive Request where
  | openSession (hostId : Half) (eligible : Bool) (period : Half)
  | closeSession
  | ping (echo : List Byte)
  | querySession
  | read (cell : Half)
  | write (cell : Half) (value : Quad)
  | fetchAdd (cell : Half) (delta : Quad)
  | setCellClass (cell : Half) (cls : CellClass) (owner : Half)
  | reserve (cell : Half)
  | commit (cell : Half) (value : Quad)
  | release
  | watch (cell : Half)
  | unwatch (cell : Half)
  | createQueue (queue : Byte) (label : Half) (capacity : Byte) (overflow : Overflow) (mask : Byte) (intended : Half)
      (notify : Bool)
  | destroyQueue (queue : Byte)
  | bind (queue : Byte)
  | unbind (queue : Byte)
  | post (queue : Byte) (urgent : Bool) (payload : List Byte)
  | take (queue : Byte) (wait : Half)
  | peek (queue : Byte)
  | queryQueue (queue : Byte)
  | setPolicy (cls : FaultClass) (policy : FaultPolicy)
  | clearFaults
  | setForward (queue : Byte)
  | yieldAdmin (target : Byte)
  | configure (threshold : Byte) (limit : Byte) (label : Half)
  | hubReset (scope : Scope)
  | queryHub
deriving DecidableEq, Repr

/-- The commands: the steps of spec/opcode_table.json, each whole. A request's command is the event in which its owning block takes
the request that `link` sent with `tag` (log 6). -/
inductive Instr where
  | powerOn (rate : LineRate)
  | resetComplete
  | storageUpset (cell : CellIx)
  | lineByteArrival (link : Link) (byte : Byte)
  | partialTimeout (link : Link)
  | resync (link : Link)
  | openSession (link : Link) (tag : Tag) (hostId : Half) (eligible : Bool) (period : Half)
  | closeSession (link : Link) (tag : Tag)
  | ping (link : Link) (tag : Tag) (echo : List Byte)
  | querySession (link : Link) (tag : Tag)
  | read (link : Link) (tag : Tag) (cell : Half)
  | write (link : Link) (tag : Tag) (cell : Half) (value : Quad)
  | fetchAdd (link : Link) (tag : Tag) (cell : Half) (delta : Quad)
  | setCellClass (link : Link) (tag : Tag) (cell : Half) (cls : CellClass) (owner : Half)
  | reserve (link : Link) (tag : Tag) (cell : Half)
  | commit (link : Link) (tag : Tag) (cell : Half) (value : Quad)
  | release (link : Link) (tag : Tag)
  | watch (link : Link) (tag : Tag) (cell : Half)
  | unwatch (link : Link) (tag : Tag) (cell : Half)
  | createQueue (link : Link) (tag : Tag) (queue : Byte) (label : Half) (capacity : Byte) (overflow : Overflow) (mask : Byte)
      (intended : Half) (notify : Bool)
  | destroyQueue (link : Link) (tag : Tag) (queue : Byte)
  | bind (link : Link) (tag : Tag) (queue : Byte)
  | unbind (link : Link) (tag : Tag) (queue : Byte)
  | post (link : Link) (tag : Tag) (queue : Byte) (urgent : Bool) (payload : List Byte)
  | take (link : Link) (tag : Tag) (queue : Byte) (wait : Half)
  | peek (link : Link) (tag : Tag) (queue : Byte)
  | queryQueue (link : Link) (tag : Tag) (queue : Byte)
  | forwardPost
  | setPolicy (link : Link) (tag : Tag) (cls : FaultClass) (policy : FaultPolicy)
  | clearFaults (link : Link) (tag : Tag)
  | setForward (link : Link) (tag : Tag) (queue : Byte)
  | yieldAdmin (link : Link) (tag : Tag) (target : Byte)
  | configure (link : Link) (tag : Tag) (threshold : Byte) (limit : Byte) (label : Half)
  | hubReset (link : Link) (tag : Tag) (scope : Scope)
  | queryHub (link : Link) (tag : Tag)
  | drain
  | holdExpiry (cell : CellIx)
  | waitingTakeExpiry (queue : QueueIx)
  | leaseExpiry (link : Link)
  | cleanTeardown (link : Link)
  | transmitterChoice (link : Link)
  | frameSent (link : Link)
  | rstnAsserted
deriving DecidableEq, Repr

end Sys2Proof
end

