-- ==== Sys2Proof/Decode.lean ====
section
/-! DEFINITION. The host's hook for words of the opcode table. No row of spec/opcode_table.json gives bits (its "fields" are
empty), so no word spells a command. The frames on the lines are read in Machine/Operands.lean. -/

namespace Sys2Proof

/-- The command that a word of the opcode table spells: none, since the table gives no row any bits. -/
def decodeTableWord (_nbits _w : Nat) : Option Instr := none

end Sys2Proof
end

