-- ==== Sys2Proof/Config.lean ====
section
/-! DEFINITION. What the part fixes, and the free values: what the manual leaves open is an opaque constant here. -/

namespace Sys2Proof.Config

/-- A link has at most four requests in flight and replies waiting together (R155). -/
def window : Nat := 4

/-- Entries of the deferred write queue (R41). -/
def dwqSize : Nat := 32

/-- Message slots of the pool (R76). -/
def poolSize : Nat := 256

/-- Watches a session may have (R62). -/
def watchLimit : Nat := 4

/-- The largest failure count (R19). -/
def failureMax : Nat := 15

/-- The largest coalesced count of a watch (R62). -/
def coalescedMax : Nat := 255

/-- The largest value of a link counter, and of the unreported detections (R160, R135). -/
def counterMax : Nat := 255

/-- The largest drop count of a queue (R75). -/
def dropMax : Nat := 65535

/-- The largest capacity of a queue (R75). -/
def capacityMax : Nat := 64

/-- The longest payload of a message (R76). -/
def payloadMax : Nat := 48

/-- The longest echo of a PING (R111). -/
def echoMax : Nat := 8

/-- Milliseconds without a byte after which a partial frame is discarded (R152). -/
def partialGap : Clock := 3

/-- One unit of a lease period, in milliseconds (R102). -/
def leaseUnit : Nat := 100

/-- The defaults of the configuration record (R143). -/
def defaultThreshold : Nat := 4
def defaultLimit : Nat := 20

/-- QUERY_HUB's constants (R150). -/
def partCode : Half := 0x2408
def revision : Byte := 1

/-- FREE VALUE (log 5). Whether the running scrub has already written the given cell when an upset strikes it; the first
argument is the model's counter of free values. The manual gives no order of the scrub. -/
opaque scrubHasPassed : Nat → CellIx → Bool

/-- FREE VALUE (log 9). R125's "messages held as they stand" of a POST that names no queue (an index above 31): the manual
states no count there. -/
opaque heldOfNoQueue : Byte → Byte

end Sys2Proof.Config
end

