-- ==== Sys2Proof/Machine/State.lean ====
section
/-! DEFINITION. Everything the manual gives the hub, as plain data, and the state after power-on. -/

namespace Sys2Proof.Machine

/-! ## CST and RSV -/

/-- Who may modify a cell: its class, with the owner host id present only when the class is OWNED (R1). -/
inductive CellAccess where
  | openAll
  | adminWrite
  | owned (host : Half)
deriving DecidableEq, Repr

/-- A cell record (R1). `checkFails` is the latent check failure of R14: the stored value no longer fits its check code. -/
structure Cell where
  value : Quad := 0
  checkFails : Bool := false
  version : Word := 0
  access : CellAccess := .openAll
  poisoned : Bool := false
deriving DecidableEq, Repr

/-- The cell as the scrub writes it (R2); an unlisted cell reads as this. -/
def blankCell : Cell := {}

/-- The state of a reservation entry, with the fields present in it (R19). -/
inductive Reservation where
  | none
  | armed (cell : CellIx) (version : Word)
  | held (cell : CellIx) (version : Word)
  | broken (cell : CellIx)
deriving DecidableEq, Repr

/-- A reservation entry (R19). -/
structure Entry where
  reservation : Reservation := .none
  failures : Nat := 0
deriving DecidableEq, Repr

/-! ## HLD and WCH -/

/-- Phase of a hold record; the deadline is present when STANDING (R39). -/
inductive HoldPhase where
  | standing (deadline : Clock)
  | ended
deriving DecidableEq, Repr

/-- A hold record (R39). -/
structure HoldRecord where
  cell : CellIx
  holder : Link
  phase : HoldPhase
deriving DecidableEq, Repr

/-- The kinds of request that are deferred (R41). -/
inductive DwqKind where
  | write | commit | fetchAdd
deriving DecidableEq, Repr

/-- An entry of the deferred write queue (R41). -/
structure DwqEntry where
  link : Link
  tag : Tag
  kind : DwqKind
  cell : CellIx
  operand : Quad
deriving DecidableEq, Repr

/-- A watch record (R62): `pending` is the coalesced count when a CHANGED is pending. A pending record is the CHANGED entry of its
link's pending report set. -/
structure Watch where
  link : Link
  cell : CellIx
  pending : Option Nat := none
deriving DecidableEq, Repr

/-! ## QUE -/

/-- A message record (R76). -/
structure Message where
  senderLink : Byte
  senderHost : Half
  stamp : Clock
  urgent : Bool
  payload : List Byte
deriving DecidableEq, Repr

/-- A waiting take (R75, R90). -/
structure WaitingTake where
  link : Link
  tag : Tag
  deadline : Clock
deriving DecidableEq, Repr

/-- The descriptor of a queue that is not ABSENT (R75): BOUND when `owner` is present, else UNBOUND. `messages` is in the order QUE
took the posts; the two orders of R77 are read from it. -/
structure Queue where
  label : Half
  capacity : Nat
  overflow : Overflow
  mask : Byte
  intended : Option Half
  notify : Bool
  owner : Option Link := none
  messages : List Message := []
  waitingTake : Option WaitingTake := none
  drops : Nat := 0
deriving DecidableEq, Repr

/-! ## Requests, replies and reports -/

/-- A request that waits, with its tag. -/
structure Waiting where
  tag : Tag
  request : Request
deriving DecidableEq, Repr

/-- A frame accepted while a reset request stands: its body is not yet checked (R155). -/
structure RawFrame where
  kind : Byte
  tag : Tag
  body : List Byte
deriving DecidableEq, Repr

/-- The status of a reply (R166). -/
inductive Status where
  | ok | okDefault | okDefaultLost | conflict | empty | fault
  | noSession | closing | resetting | gone | cancelled | idInUse
deriving DecidableEq, Repr

/-- A reply placed and not yet begun (R157): the reply kind, the request's tag, the status, and the fields after the status byte
as R169 to R171 lay them out. -/
structure Reply where
  kind : Byte
  tag : Tag
  status : Status
  fields : List Byte
deriving DecidableEq, Repr

/-- Why a session ended abruptly (R118). -/
inductive EndReason where
  | lease | resync
deriving DecidableEq, Repr

/-- The fixed content of a SESSION_ENDED report (R118). -/
structure SessionEnded where
  reason : EndReason
  hostId : Half
  discarded : Nat
deriving DecidableEq, Repr

/-- The link entry of a pending report set (R158). -/
inductive LinkEntry where
  | notice | resyncDone
deriving DecidableEq, Repr

/-- The pending report set of a link (R158), one field for each key; the CHANGED entries are the pending watches of the link (R62). -/
structure PendingReports where
  sessionEnded : Option SessionEnded := none
  role : Bool := false
  integrity : Bool := false
  linkEntry : Option LinkEntry := none
  arrivals : List QueueIx := []
deriving DecidableEq, Repr

/-- A forward post pending at the queue arbiter (R80, R126): the queue named, the 10-byte fault record, and what the faulting operation waits
to do when the post has been taken: its reply with the default result, and the drain it goes on with. `carrying` is the request that the arbiter may be
carrying out when the post becomes pending, and then finishes first (R80, R127, log 8). -/
structure ForwardPost where
  link : Link
  tag : Tag
  kind : Byte
  fields : List Byte
  queue : QueueIx
  record : List Byte
  resume : Option CellIx
  carrying : Option (Link × Waiting)
deriving DecidableEq, Repr

/-! ## LNK -/

/-- The receiver with its partial frame and the arrival time of the latest byte (R151). `got` is what followed the SYNC, the LEN byte first.
CHECK passes within one event and never rests (log 3). -/
inductive Receiver where
  | hunt
  | length (latest : Clock)
  | collect (got : List Byte) (latest : Clock)
deriving DecidableEq, Repr

/-- The six link counters (R160). -/
structure LinkCounters where
  noise : Nat := 0
  lengthErrors : Nat := 0
  crcErrors : Nat := 0
  partialTimeouts : Nat := 0
  overruns : Nat := 0
  duplicateTags : Nat := 0
deriving DecidableEq, Repr

/-- The transmitter (R151); SENDING holds the bytes of the frame on the line. -/
inductive Transmitter where
  | idle
  | sending (frame : List Byte)
deriving DecidableEq, Repr

/-- A link unit (R151). `inbox` holds the requests handed to SES and not yet taken (log 4); `heldFrames` those accepted while a reset
request stands (R155). -/
structure LinkUnit where
  receiver : Receiver := .hunt
  tags : List Tag := []
  heldFrames : List RawFrame := []
  inbox : List Waiting := []
  replies : List Reply := []
  reports : PendingReports := {}
  counters : LinkCounters := {}
  heldResync : Bool := false
  transmitter : Transmitter := .idle
deriving DecidableEq, Repr

/-! ## SES and FLT -/

/-- ATTACHED or CLOSING; a DETACHED link has no session record (R102). -/
inductive SessionPhase where
  | attached | closing
deriving DecidableEq, Repr

/-- The record of a session that is not DETACHED (R102). The in-flight count is the number of the link's tags in flight. -/
structure Session where
  phase : SessionPhase
  hostId : Half
  eligible : Bool
  period : Byte
  deadline : Option Clock
deriving DecidableEq, Repr

/-- The fault record of a session (R122). -/
structure FaultRecord where
  policies : Vector FaultPolicy 6 := Vector.replicate 6 .refuse
  occurred : Vector Bool 6 := Vector.replicate 6 false
  lost : Bool := false
  designation : Option QueueIx := none
deriving DecidableEq, Repr

/-! ## HUB -/

inductive HubState where
  | resetting | ready
deriving DecidableEq, Repr

/-- The reset request (R135). -/
structure ResetRequest where
  scope : Scope
  link : Link
deriving DecidableEq, Repr

/-- The configuration record (R143). -/
structure Configuration where
  threshold : Nat := Config.defaultThreshold
  limit : Nat := Config.defaultLimit
  label : Half := 0
deriving DecidableEq, Repr

/-- The hub counters that HUB keeps (R36, R61, R145, R150). -/
structure HubCounters where
  commits : Word := 0
  conflicts : Word := 0
  holdsGranted : Word := 0
  holdsExpired : Word := 0
  deferrals : Word := 0
  highWater : Nat := 0
  detections : Word := 0
deriving DecidableEq, Repr

/-- The whole hub. Fields by block: pins, CST, RSV, HLD, WCH, QUE, FLT, SES, LNK, HUB, and the model's own two. -/
structure State where
  rstn : Bool
  lineRate : LineRate
  cells : List (CellIx × Cell)
  modifications : Word
  cellPointer : Link
  cellLines : Vector (List Waiting) 8
  drains : List CellIx
  draining : Option CellIx
  scrubbing : Bool
  entries : Vector Entry 8
  holds : List HoldRecord
  dwq : List DwqEntry
  watches : List Watch
  queues : List (QueueIx × Queue)
  queuePointer : Link
  queueLines : Vector (List Waiting) 8
  forwardPosts : List ForwardPost
  faults : Vector FaultRecord 8
  sessions : Vector (Option Session) 8
  links : Vector LinkUnit 8
  hubState : HubState
  resetRequest : Option ResetRequest
  admin : Option Link
  config : Configuration
  clock : Clock
  unreported : Nat
  latestCell : Option CellIx
  counters : HubCounters
  pending : List Instr
  freeSeed : Nat
deriving DecidableEq, Repr

/-- The model has no faults: the manual gives every command an effect in every state, and the hub's own faults (R120) are replies. -/
inductive Fault where
deriving DecidableEq, Repr

/-- The model's refusals. `notModelled` is raised by an arm of exec whose command has no meaning yet, and no arm raises it: safe. -/
inductive Refusal where
  | notModelled (mnemonic : String)
deriving DecidableEq, Repr

/-- What a step answers. -/
abbrev Result := Host.Outcome State Fault Refusal

/-- The hub right after RSTn has risen: RESETTING, every block at its power-on state (R136; R2, R20, R42, R63, R78, R103, R122, R135, R151). The
line rate and the free-value counter are the model's choice (logs 2, 5). -/
def State.reset : State where
  rstn := true
  lineRate := .r115200
  cells := []
  modifications := 0
  cellPointer := 0
  cellLines := Vector.replicate 8 []
  drains := []
  draining := none
  scrubbing := true
  entries := Vector.replicate 8 {}
  holds := []
  dwq := []
  watches := []
  queues := []
  queuePointer := 0
  queueLines := Vector.replicate 8 []
  forwardPosts := []
  faults := Vector.replicate 8 {}
  sessions := Vector.replicate 8 none
  links := Vector.replicate 8 {}
  hubState := .resetting
  resetRequest := none
  admin := none
  config := {}
  clock := 0
  unreported := 0
  latestCell := none
  counters := {}
  pending := []
  freeSeed := 0

end Sys2Proof.Machine
end

