-- ==== Sys2Proof/Machine/Flags.lean ====
section
/-! DEFINITION. Codes of section 10.3: statuses, fault classes and codes, enumerated fields, marks and flag bytes. -/

namespace Sys2Proof.Machine

/-- The codes of R121, one for each check that can fail. -/
inductive FaultCode where
  | unknownKind | bodyLength | reservedSet | enumValue | fixedPolicy
  | cellIndex | queueIndex | queueCapacity | hostId | leasePeriod | configValue | linkIndex
  | cellClass | notAdmin | notOwner | postMask | intendedOwner
  | noReservation | otherCell | queueAbsent | queueExists | queueBound | takeWaiting | watchExists | watchMissing
  | sessionOpen | adminTarget | adminAlone
  | queueFull | poolEmpty | dwqFull | watchLimit
  | detected | poisoned
deriving DecidableEq, Repr

/-- A fault as the raising block describes it (R120); its class is its code's. -/
structure HubFault where
  code : FaultCode
  subject : Half
  detail : Word
deriving DecidableEq, Repr

/-- The class a code belongs to (R121). -/
def FaultCode.faultClass : FaultCode → FaultClass
  | .unknownKind | .bodyLength | .reservedSet | .enumValue | .fixedPolicy => .form
  | .cellIndex | .queueIndex | .queueCapacity | .hostId | .leasePeriod | .configValue | .linkIndex => .range
  | .cellClass | .notAdmin | .notOwner | .postMask | .intendedOwner => .access
  | .noReservation | .otherCell | .queueAbsent | .queueExists | .queueBound | .takeWaiting | .watchExists | .watchMissing
  | .sessionOpen | .adminTarget | .adminAlone => .state
  | .queueFull | .poolEmpty | .dwqFull | .watchLimit => .capacity
  | .detected | .poisoned => .integrity

/-- The numeric value of a fault code (R166). -/
def FaultCode.byte : FaultCode → Byte
  | .unknownKind => 0x10 | .bodyLength => 0x11 | .reservedSet => 0x12 | .enumValue => 0x13 | .fixedPolicy => 0x14
  | .cellIndex => 0x20 | .queueIndex => 0x21 | .queueCapacity => 0x22 | .hostId => 0x23 | .leasePeriod => 0x24
  | .configValue => 0x25 | .linkIndex => 0x26
  | .cellClass => 0x30 | .notAdmin => 0x31 | .notOwner => 0x32 | .postMask => 0x33 | .intendedOwner => 0x34
  | .noReservation => 0x40 | .otherCell => 0x41 | .queueAbsent => 0x42 | .queueExists => 0x43 | .queueBound => 0x44
  | .takeWaiting => 0x45 | .watchExists => 0x46 | .watchMissing => 0x47 | .sessionOpen => 0x48 | .adminTarget => 0x49
  | .adminAlone => 0x4A
  | .queueFull => 0x50 | .poolEmpty => 0x51 | .dwqFull => 0x52 | .watchLimit => 0x53
  | .detected => 0x60 | .poisoned => 0x61

/-- The place of a class among the six policies and the six occurred flags: FORM first, INTEGRITY last (R166, R171). -/
def classIndex : FaultClass → Fin 6
  | .form => 0 | .range => 1 | .access => 2 | .state => 3 | .capacity => 4 | .integrity => 5

/-- The numeric value of a fault class, 1 to 6 (R166). -/
def classByte (c : FaultClass) : Byte := BitVec.ofNat 8 ((classIndex c).val + 1)

/-- The numeric value of a status (R166). -/
def statusByte : Status → Byte
  | .ok => 0x00 | .okDefault => 0x01 | .okDefaultLost => 0x02 | .conflict => 0x03 | .empty => 0x04 | .fault => 0x05
  | .noSession => 0x06 | .closing => 0x07 | .resetting => 0x08 | .gone => 0x09 | .cancelled => 0x0A | .idInUse => 0x0B

/-- A yes-or-no field (R166). -/
def flagByte (b : Bool) : Byte := if b then 1 else 0

/-- A mark byte of two marks: RESERVE's hold-granted and held-elsewhere, POST's handed and dropped (R166). -/
def marksByte (bit0 bit1 : Bool) : Byte := (if bit0 then 1 else 0) + (if bit1 then 2 else 0)

/-- The occurred flags as one byte: bit n - 1 for class n (R166). -/
def occurredByte (flags : Vector Bool 6) : Byte :=
  BitVec.ofNat 8 (flags.toList.foldr (fun b acc => (if b then 1 else 0) + 2 * acc) 0)

/-- Fault policy codes (R166). -/
def policyByte : FaultPolicy → Byte
  | .refuse => 0 | .absorb => 1 | .forward => 2

/-- Cell class codes (R166). -/
def accessByte : CellAccess → Byte
  | .openAll => 0 | .adminWrite => 1 | .owned _ => 2

/-- The owner host id of a cell, 0 when there is none (R10, R166). -/
def accessOwner : CellAccess → Half
  | .owned h => h
  | _ => 0

/-- Overflow policy codes (R166). -/
def overflowByte : Overflow → Byte
  | .refuse => 0 | .dropOldest => 1

/-- HUB_RESET scope codes (R166). -/
def scopeByte : Scope → Byte
  | .clear => 0 | .keepCells => 1

/-- SESSION_ENDED reason codes (R166). -/
def reasonByte : EndReason → Byte
  | .lease => 0 | .resync => 1

/-- Reservation state codes (R166). -/
def reservationByte : Reservation → Byte
  | .none => 0 | .armed _ _ => 1 | .held _ _ => 2 | .broken _ => 3

/-- The cell of a reservation, 0xFFFF when absent (R166, R169). -/
def reservationCell : Reservation → Half
  | .none => 0xFFFF
  | .armed c _ | .held c _ | .broken c => BitVec.ofNat 16 c.val

/-- The version at arm, 0 when absent (R171). -/
def reservationVersion : Reservation → Word
  | .armed _ v | .held _ v => v
  | _ => 0

/-- A link or none, 0xFF for none (R166). -/
def linkByte : Option Link → Byte
  | some l => BitVec.ofNat 8 l.val
  | none => 0xFF

/-- A queue or none, 0xFF for none (R166). -/
def queueByte : Option QueueIx → Byte
  | some q => BitVec.ofNat 8 q.val
  | none => 0xFF

/-- Queue state codes: 0 ABSENT, 1 UNBOUND, 2 BOUND (R166). -/
def queueStateByte : Option Queue → Byte
  | none => 0
  | some q => if q.owner.isSome then 2 else 1

/-- The detail of a CELL_CLASS fault: owner host id in bytes 0 and 1, class in byte 2 (R166). -/
def cellClassDetail (a : CellAccess) : Word :=
  (accessOwner a).setWidth 32 + ((accessByte a).setWidth 32 <<< 16)

/-- The detail of NO_RESERVATION and OTHER_CELL: state in byte 0, cell in bytes 2 and 3 (R166). -/
def reservationDetail (r : Reservation) : Word :=
  (reservationByte r).setWidth 32 + ((reservationCell r).setWidth 32 <<< 16)

end Sys2Proof.Machine
end

