-- ==== Sys2Proof/Machine/Operands.lean ====
section
/-! DEFINITION. Frames and bodies (spec/10): byte order, the CRC, the kind codes, the checks of a received body, and the layout of
every reply, report and record the hub sends. -/

namespace Sys2Proof.Machine

/-! ## Byte order and the CRC (R164) -/

/-- The `n` bytes of a field, least significant first. -/
def le (n : Nat) {w : Nat} (x : BitVec w) : List Byte :=
  (List.range n).map fun i => (x >>> (8 * i)).setWidth 8

/-- The number that bytes spell, least significant first. -/
def fromLe : List Byte → Nat
  | [] => 0
  | b :: bs => b.toNat + 256 * fromLe bs

/-- A count as one byte. -/
def countByte (n : Nat) : Byte := BitVec.ofNat 8 n

/-- One bit of the CRC: the register shifts left, with the polynomial 0x1021 when its top bit leaves. -/
def crcShift (r : BitVec 16) : BitVec 16 :=
  if r.msb then (r <<< 1) ^^^ 0x1021 else r <<< 1

/-- One byte of the CRC, most significant bit first. -/
def crcByte (r : BitVec 16) (b : Byte) : BitVec 16 :=
  Nat.repeat crcShift 8 (r ^^^ (b.setWidth 16 <<< 8))

/-- The CRC over bytes in the order they are sent: from 0xFFFF, not inverted. -/
def crc (bytes : List Byte) : BitVec 16 := bytes.foldl crcByte 0xFFFF

/-- The SYNC byte (R163). -/
def sync : Byte := 0xA5

/-- A whole frame: SYNC, LEN, KIND, TAG, BODY, CRC (R163). -/
def frameBytes (kind : Byte) (tag : Tag) (body : List Byte) : List Byte :=
  let covered := countByte (body.length + 2) :: kind :: tag :: body
  sync :: covered ++ le 2 (crc covered)

/-! ## Kinds (R165) -/

/-- The kind of RESYNC. -/
def resyncKind : Byte := 0x7F

/-- The reply kind for UNKNOWN_KIND. -/
def unknownReplyKind : Byte := 0xBF

/-- The kind code of a request (R169). -/
def requestKind : Request → Byte
  | .openSession .. => 0x01 | .closeSession => 0x02 | .ping _ => 0x03 | .querySession => 0x04
  | .read _ => 0x10 | .write .. => 0x11 | .fetchAdd .. => 0x12 | .setCellClass .. => 0x13
  | .reserve _ => 0x18 | .commit .. => 0x19 | .release => 0x1A
  | .watch _ => 0x1C | .unwatch _ => 0x1D
  | .createQueue .. => 0x20 | .destroyQueue _ => 0x21 | .bind _ => 0x22 | .unbind _ => 0x23 | .post .. => 0x24
  | .take .. => 0x25 | .peek _ => 0x26 | .queryQueue _ => 0x27
  | .setPolicy .. => 0x30 | .clearFaults => 0x31 | .setForward _ => 0x32 | .yieldAdmin _ => 0x33 | .configure .. => 0x34
  | .hubReset _ => 0x35 | .queryHub => 0x36

/-- A reply's kind is its request's kind plus 0x80 (R165). -/
def replyKind (kind : Byte) : Byte := kind + 0x80

/-- The smallest and the largest body length of each request kind, none for a code with no request (R165, R167, R169). -/
def bodyRange (kind : Byte) : Option (Nat × Nat) :=
  match kind.toNat with
  | 0x01 => some (5, 5) | 0x02 => some (0, 0) | 0x03 => some (0, 8) | 0x04 => some (0, 0)
  | 0x10 => some (2, 2) | 0x11 => some (10, 10) | 0x12 => some (10, 10) | 0x13 => some (5, 5)
  | 0x18 => some (2, 2) | 0x19 => some (10, 10) | 0x1A => some (0, 0)
  | 0x1C => some (2, 2) | 0x1D => some (2, 2)
  | 0x20 => some (9, 9) | 0x21 => some (1, 1) | 0x22 => some (1, 1) | 0x23 => some (1, 1) | 0x24 => some (2, 50)
  | 0x25 => some (3, 3) | 0x26 => some (1, 1) | 0x27 => some (1, 1)
  | 0x30 => some (2, 2) | 0x31 => some (0, 0) | 0x32 => some (1, 1) | 0x33 => some (1, 1) | 0x34 => some (4, 4)
  | 0x35 => some (1, 1) | 0x36 => some (0, 0)
  | _ => none

/-! ## Reading a request body (R167 to R169) -/

/-- The byte at an offset of a body. -/
def byteAt (body : List Byte) (i : Nat) : Byte := body.getD i 0

/-- The two-byte field at an offset. -/
def halfAt (body : List Byte) (i : Nat) : Half := BitVec.ofNat 16 (fromLe ((body.drop i).take 2))

/-- The eight-byte field at an offset. -/
def quadAt (body : List Byte) (i : Nat) : Quad := BitVec.ofNat 64 (fromLe ((body.drop i).take 8))

/-- A FORM fault of the body checks: subject 0 (R121). -/
def formFault (code : FaultCode) (detail : Nat) : HubFault := ⟨code, 0, BitVec.ofNat 32 detail⟩

/-- A yes-or-no field at an offset; another value is ENUM_VALUE with that offset (R168). -/
def flagAt (body : List Byte) (i : Nat) : Except HubFault Bool :=
  match (byteAt body i).toNat with
  | 0 => .ok false
  | 1 => .ok true
  | _ => .error (formFault .enumValue i)

/-- The class field of SET_CELL_CLASS (R168). -/
def cellClassAt (body : List Byte) (i : Nat) : Except HubFault CellClass :=
  match (byteAt body i).toNat with
  | 0 => .ok .openAll
  | 1 => .ok .adminWrite
  | 2 => .ok .owned
  | _ => .error (formFault .enumValue i)

/-- The overflow policy of CREATE_QUEUE (R168). -/
def overflowAt (body : List Byte) (i : Nat) : Except HubFault Overflow :=
  match (byteAt body i).toNat with
  | 0 => .ok .refuse
  | 1 => .ok .dropOldest
  | _ => .error (formFault .enumValue i)

/-- The class field of SET_POLICY, 1 to 6 (R168). -/
def faultClassAt (body : List Byte) (i : Nat) : Except HubFault FaultClass :=
  match (byteAt body i).toNat with
  | 1 => .ok .form
  | 2 => .ok .range
  | 3 => .ok .access
  | 4 => .ok .state
  | 5 => .ok .capacity
  | 6 => .ok .integrity
  | _ => .error (formFault .enumValue i)

/-- The policy field of SET_POLICY (R168). -/
def policyAt (body : List Byte) (i : Nat) : Except HubFault FaultPolicy :=
  match (byteAt body i).toNat with
  | 0 => .ok .refuse
  | 1 => .ok .absorb
  | 2 => .ok .forward
  | _ => .error (formFault .enumValue i)

/-- The scope field of HUB_RESET (R168). -/
def scopeAt (body : List Byte) (i : Nat) : Except HubFault Scope :=
  match (byteAt body i).toNat with
  | 0 => .ok .clear
  | 1 => .ok .keepCells
  | _ => .error (formFault .enumValue i)

/-- The owner host id of SET_CELL_CLASS is reserved, and so must be 0, when the class field is OPEN or ADMIN_WRITE (R168). -/
def ownerReservedOk (body : List Byte) : Bool :=
  decide (2 ≤ (byteAt body 2).toNat) || decide (halfAt body 3 = 0)

/-- The request a body of the right length spells, or its FORM fault: reserved fields first, then enumerated ones (R167, R169). -/
def readFields (kind : Byte) (body : List Byte) : Except HubFault Request :=
  match kind.toNat with
  | 0x01 => do return .openSession (halfAt body 0) (← flagAt body 2) (halfAt body 3)
  | 0x02 => .ok .closeSession
  | 0x03 => .ok (.ping body)
  | 0x04 => .ok .querySession
  | 0x10 => .ok (.read (halfAt body 0))
  | 0x11 => .ok (.write (halfAt body 0) (quadAt body 2))
  | 0x12 => .ok (.fetchAdd (halfAt body 0) (quadAt body 2))
  | 0x13 =>
    if ownerReservedOk body then do return .setCellClass (halfAt body 0) (← cellClassAt body 2) (halfAt body 3)
    else .error (formFault .reservedSet 3)
  | 0x18 => .ok (.reserve (halfAt body 0))
  | 0x19 => .ok (.commit (halfAt body 0) (quadAt body 2))
  | 0x1A => .ok .release
  | 0x1C => .ok (.watch (halfAt body 0))
  | 0x1D => .ok (.unwatch (halfAt body 0))
  | 0x20 => do
    let overflow ← overflowAt body 4
    let notify ← flagAt body 8
    return .createQueue (byteAt body 0) (halfAt body 1) (byteAt body 3) overflow (byteAt body 5) (halfAt body 6) notify
  | 0x21 => .ok (.destroyQueue (byteAt body 0))
  | 0x22 => .ok (.bind (byteAt body 0))
  | 0x23 => .ok (.unbind (byteAt body 0))
  | 0x24 => do return .post (byteAt body 0) (← flagAt body 1) (body.drop 2)
  | 0x25 => .ok (.take (byteAt body 0) (halfAt body 1))
  | 0x26 => .ok (.peek (byteAt body 0))
  | 0x27 => .ok (.queryQueue (byteAt body 0))
  | 0x30 => do
    let cls ← faultClassAt body 0
    let policy ← policyAt body 1
    return .setPolicy cls policy
  | 0x31 => .ok .clearFaults
  | 0x32 => .ok (.setForward (byteAt body 0))
  | 0x33 => .ok (.yieldAdmin (byteAt body 0))
  | 0x34 => .ok (.configure (byteAt body 0) (byteAt body 1) (halfAt body 2))
  | 0x35 => do return .hubReset (← scopeAt body 0)
  | 0x36 => .ok .queryHub
  | _ => .error (formFault .unknownKind kind.toNat)

/-- The body checks of R167, in their order: the kind, the length, the reserved fields, the enumerated fields. -/
def checkBody (kind : Byte) (body : List Byte) : Except HubFault Request :=
  match bodyRange kind with
  | none => .error (formFault .unknownKind kind.toNat)
  | some (low, high) =>
    if low ≤ body.length ∧ body.length ≤ high then readFields kind body
    else .error (formFault .bodyLength body.length)

/-! ## Laying out a request body (R169): what a host sends, the other direction of `readFields` -/

/-- Cell class codes of a request (R166). -/
def cellClassByte : CellClass → Byte
  | .openAll => 0 | .adminWrite => 1 | .owned => 2

/-- The body of a request (R169). -/
def requestBody : Request → List Byte
  | .openSession hostId eligible period => le 2 hostId ++ [flagByte eligible] ++ le 2 period
  | .closeSession => []
  | .ping echo => echo
  | .querySession => []
  | .read cell => le 2 cell
  | .write cell value => le 2 cell ++ le 8 value
  | .fetchAdd cell delta => le 2 cell ++ le 8 delta
  | .setCellClass cell cls owner => le 2 cell ++ [cellClassByte cls] ++ le 2 owner
  | .reserve cell => le 2 cell
  | .commit cell value => le 2 cell ++ le 8 value
  | .release => []
  | .watch cell => le 2 cell
  | .unwatch cell => le 2 cell
  | .createQueue queue label capacity overflow mask intended notify =>
    [queue] ++ le 2 label ++ [capacity, overflowByte overflow, mask] ++ le 2 intended ++ [flagByte notify]
  | .destroyQueue queue => [queue]
  | .bind queue => [queue]
  | .unbind queue => [queue]
  | .post queue urgent payload => [queue, flagByte urgent] ++ payload
  | .take queue wait => [queue] ++ le 2 wait
  | .peek queue => [queue]
  | .queryQueue queue => [queue]
  | .setPolicy cls policy => [classByte cls, policyByte policy]
  | .clearFaults => []
  | .setForward queue => [queue]
  | .yieldAdmin target => [target]
  | .configure threshold limit label => [threshold, limit] ++ le 2 label
  | .hubReset scope => [scopeByte scope]
  | .queryHub => []

/-! ## Finding a frame (R152, R154, R163) -/

/-- What the bytes after a SYNC amount to so far. -/
inductive Parsed where
  | incomplete
  | badLength
  | badCrc
  | frame (kind : Byte) (tag : Tag) (body : List Byte) (size : Nat)
deriving DecidableEq, Repr

/-- Reads the bytes after a SYNC: LEN must be 2 to 62 (R152); when LEN + 2 more bytes are there the CRC is checked (R154).
`size` is how many of the bytes the frame took. -/
def parseFrame : List Byte → Parsed
  | [] => .incomplete
  | len :: more =>
    let n := len.toNat
    if n < 2 ∨ 62 < n then .badLength
    else if more.length < n + 2 then .incomplete
    else if le 2 (crc (len :: more.take n)) = (more.drop n).take 2 then
      .frame (byteAt more 0) (byteAt more 1) ((more.take n).drop 2) (n + 3)
    else .badCrc

/-! ## What the hub sends (R166, R169 to R171) -/

/-- The fields of a FAULT reply: class, code, subject, detail (R170). -/
def faultFields (f : HubFault) : List Byte :=
  [classByte f.code.faultClass, f.code.byte] ++ le 2 f.subject ++ le 4 f.detail

/-- The fault record posted under FORWARD (R126, R171). -/
def faultRecordBytes (f : HubFault) (kind : Byte) (tag : Tag) : List Byte :=
  [classByte f.code.faultClass, f.code.byte, kind, tag] ++ le 2 f.subject ++ le 4 f.detail

/-- A message record (R169). -/
def messageFields (m : Message) : List Byte :=
  [m.senderLink] ++ le 2 m.senderHost ++ le 4 m.stamp ++ [flagByte m.urgent] ++ m.payload

/-- The frame of a reply: its body begins with the status byte (R170). -/
def replyFrame (r : Reply) : List Byte := frameBytes r.kind r.tag (statusByte r.status :: r.fields)

/-- The frame of a report: tag 0 (R165, R171). -/
def reportFrame (kind : Byte) (body : List Byte) : List Byte := frameBytes kind 0 body

/-- The six counts of LINK_NOTICE and RESYNC_DONE (R171). -/
def counterFields (c : LinkCounters) : List Byte :=
  [countByte c.noise, countByte c.lengthErrors, countByte c.crcErrors, countByte c.partialTimeouts, countByte c.overruns,
    countByte c.duplicateTags]

/-- Whether the bytes are those of a HUB_RESET reply with status OK: kind 0xB5, status 0 (R165, R166). -/
def isResetReply (frame : List Byte) : Bool :=
  decide (frame[2]? = some 0xB5) && decide (frame[4]? = some 0x00)

end Sys2Proof.Machine
end

