-- ==== Sys2Proof/Machine/Ops.lean ====
section
/-! DEFINITION. The named operations over tables, the hub clock and the link units; every family of commands is written over them. -/

namespace Sys2Proof.Machine

/-! ## Tables of eight links -/

/-- The entry of a table. -/
def getAt {α : Type} {n : Nat} (t : Vector α n) (i : Fin n) : α := t[i.val]

/-- The table with one entry replaced. -/
def setAt {α : Type} {n : Nat} (t : Vector α n) (i : Fin n) (x : α) : Vector α n := t.set i.val x

/-- All links, lowest first. -/
def allLinks : List Link := [0, 1, 2, 3, 4, 5, 6, 7]

/-- A table with every entry rewritten, each knowing its link. -/
def mapLinks {α β : Type} (f : Link → α → β) (t : Vector α 8) : Vector β 8 :=
  #v[f 0 (getAt t 0), f 1 (getAt t 1), f 2 (getAt t 2), f 3 (getAt t 3), f 4 (getAt t 4), f 5 (getAt t 5), f 6 (getAt t 6),
    f 7 (getAt t 7)]

/-! ## Sparse tables by index: the cell store and the queue descriptors -/

/-- The entry listed at an index. -/
def findAt {α : Type} {n : Nat} (t : List (Fin n × α)) (i : Fin n) : Option α :=
  match t with
  | [] => none
  | (k, x) :: rest => if k = i then some x else findAt rest i

/-- The table with an entry listed at an index, the indices kept rising. -/
def putAt {α : Type} {n : Nat} (t : List (Fin n × α)) (i : Fin n) (x : α) : List (Fin n × α) :=
  match t with
  | [] => [(i, x)]
  | (k, y) :: rest =>
    if i < k then (i, x) :: (k, y) :: rest
    else if k = i then (i, x) :: rest
    else (k, y) :: putAt rest i x

/-- The table with nothing listed at an index. -/
def dropAt {α : Type} {n : Nat} (t : List (Fin n × α)) (i : Fin n) : List (Fin n × α) :=
  t.filter fun e => decide (e.1 ≠ i)

/-- Adds an index to a rising list of indices, once. -/
def insertIx {n : Nat} (i : Fin n) : List (Fin n) → List (Fin n)
  | [] => [i]
  | k :: rest => if i < k then i :: k :: rest else if i = k then k :: rest else k :: insertIx i rest

/-! ## Indices as frames carry them -/

/-- The cell of an index field, none above 1023. -/
def cellOf (c : Half) : Option CellIx := if h : c.toNat < 1024 then some ⟨c.toNat, h⟩ else none

/-- The queue of an index field, none above 31. -/
def queueOf (q : Byte) : Option QueueIx := if h : q.toNat < 32 then some ⟨q.toNat, h⟩ else none

/-- The link of a link field, none above 7. -/
def linkOf (l : Byte) : Option Link := if h : l.toNat < 8 then some ⟨l.toNat, h⟩ else none

/-- A cell's index as a fault's subject. -/
def cellSubject (c : CellIx) : Half := BitVec.ofNat 16 c.val

/-! ## Time (R144) -/

/-- Whether the hub clock has reached a deadline, allowing for its wrap: the clock is less than half its range past it. -/
def reached (now deadline : Clock) : Bool := decide ((now - deadline).toNat < 2 ^ 31)

/-- A deadline some milliseconds ahead. -/
def later (now : Clock) (ms : Nat) : Clock := now + BitVec.ofNat 32 ms

/-! ## Counts -/

/-- A count that stays at its largest value once there. -/
def saturate (max n : Nat) : Nat := if n < max then n + 1 else n

/-! ## Records of a state by link -/

def State.link (s : State) (l : Link) : LinkUnit := getAt s.links l

def State.updLink (s : State) (l : Link) (f : LinkUnit → LinkUnit) : State :=
  { s with links := setAt s.links l (f (s.link l)) }

def State.session (s : State) (l : Link) : Option Session := getAt s.sessions l

def State.setSession (s : State) (l : Link) (x : Option Session) : State := { s with sessions := setAt s.sessions l x }

def State.entry (s : State) (l : Link) : Entry := getAt s.entries l

def State.setEntry (s : State) (l : Link) (e : Entry) : State := { s with entries := setAt s.entries l e }

def State.faultRecord (s : State) (l : Link) : FaultRecord := getAt s.faults l

def State.setFaultRecord (s : State) (l : Link) (r : FaultRecord) : State := { s with faults := setAt s.faults l r }

def State.cellLine (s : State) (l : Link) : List Waiting := getAt s.cellLines l

def State.setCellLine (s : State) (l : Link) (ws : List Waiting) : State := { s with cellLines := setAt s.cellLines l ws }

def State.queueLine (s : State) (l : Link) : List Waiting := getAt s.queueLines l

def State.setQueueLine (s : State) (l : Link) (ws : List Waiting) : State := { s with queueLines := setAt s.queueLines l ws }

/-- The record of a cell; an unlisted cell reads as the scrubbed cell (R2). -/
def State.cell (s : State) (c : CellIx) : Cell := (findAt s.cells c).getD blankCell

/-- Writes a cell record, keeping the canonical form: a cell equal to the scrubbed cell is not listed. -/
def State.setCell (s : State) (c : CellIx) (x : Cell) : State :=
  { s with cells := if x = blankCell then dropAt s.cells c else putAt s.cells c x }

/-- The descriptor of a queue, none when ABSENT (R75). -/
def State.queue (s : State) (q : QueueIx) : Option Queue := findAt s.queues q

def State.setQueue (s : State) (q : QueueIx) (d : Queue) : State := { s with queues := putAt s.queues q d }

def State.removeQueue (s : State) (q : QueueIx) : State := { s with queues := dropAt s.queues q }

/-! ## What a session is -/

/-- The host identity of the session on a link, 0 when DETACHED. -/
def State.hostId (s : State) (l : Link) : Half := ((s.session l).map Session.hostId).getD 0

/-- The session on a link is ATTACHED (R102). -/
def State.attached (s : State) (l : Link) : Bool :=
  match s.session l with
  | some x => decide (x.phase = .attached)
  | none => false

/-- ATTACHED and admin-eligible: a candidate for the role (R138). -/
def State.eligible (s : State) (l : Link) : Bool :=
  match s.session l with
  | some x => decide (x.phase = .attached) && x.eligible
  | none => false

/-- The in-flight count of a link: its tags in flight (R102, R151). -/
def State.inFlight (s : State) (l : Link) : Nat := (s.link l).tags.length

/-- A reset request stands: no block takes work (R147). -/
def State.resetStands (s : State) : Bool := s.resetRequest.isSome

/-! ## Replies (R156, R157) -/

/-- Places a reply at the tail of a link's reply queue; the request leaves flight there. `kind` is the reply's own kind. -/
def State.placeReply (s : State) (l : Link) (r : Reply) : State :=
  s.updLink l fun u => { u with tags := u.tags.erase r.tag, replies := u.replies ++ [r] }

/-- Answers a request of the given kind. -/
def State.answer (s : State) (l : Link) (tag : Tag) (kind : Byte) (status : Status) (fields : List Byte) : State :=
  s.placeReply l ⟨replyKind kind, tag, status, fields⟩

/-! ## The pending report set (R158) -/

/-- Rewrites the pending report set of a link. -/
def State.updReports (s : State) (l : Link) (f : PendingReports → PendingReports) : State :=
  s.updLink l fun u => { u with reports := f u.reports }

def State.pendRole (s : State) (l : Link) : State := s.updReports l fun r => { r with role := true }

def State.pendIntegrity (s : State) (l : Link) : State := s.updReports l fun r => { r with integrity := true }

def State.withdrawIntegrity (s : State) (l : Link) : State := s.updReports l fun r => { r with integrity := false }

def State.pendArrival (s : State) (l : Link) (q : QueueIx) : State :=
  s.updReports l fun r => { r with arrivals := insertIx q r.arrivals }

def State.withdrawArrival (s : State) (l : Link) (q : QueueIx) : State :=
  s.updReports l fun r => { r with arrivals := r.arrivals.filter fun k => decide (k ≠ q) }

/-- The cells of the CHANGED entries in a link's set: its pending watches (R62). -/
def State.changedCells (s : State) (l : Link) : List CellIx :=
  s.watches.filterMap fun w => if w.link = l ∧ w.pending.isSome then some w.cell else none

/-! ## Link counters (R160) -/

/-- Which of the six counters. -/
inductive CounterName where
  | noise | lengthErrors | crcErrors | partialTimeouts | overruns | duplicateTags
deriving DecidableEq, Repr

/-- Raises one counter, which stays at 255. -/
def raiseCounter (k : CounterName) (c : LinkCounters) : LinkCounters :=
  match k with
  | .noise => { c with noise := saturate Config.counterMax c.noise }
  | .lengthErrors => { c with lengthErrors := saturate Config.counterMax c.lengthErrors }
  | .crcErrors => { c with crcErrors := saturate Config.counterMax c.crcErrors }
  | .partialTimeouts => { c with partialTimeouts := saturate Config.counterMax c.partialTimeouts }
  | .overruns => { c with overruns := saturate Config.counterMax c.overruns }
  | .duplicateTags => { c with duplicateTags := saturate Config.counterMax c.duplicateTags }

/-- A LINK_NOTICE becomes pending, unless the link entry already is. -/
def noticeEntry (e : Option LinkEntry) : Option LinkEntry := some (e.getD .notice)

/-- An increment of a link counter makes the link entry pending. -/
def State.countError (s : State) (l : Link) (k : CounterName) : State :=
  s.updLink l fun u =>
    { u with counters := raiseCounter k u.counters, reports := { u.reports with linkEntry := noticeEntry u.reports.linkEntry } }

/-- The link entry that stands after an emptying that keeps the counters: LINK_NOTICE if any counter is above 0 (R116, R162). -/
def noticeIfCounted (c : LinkCounters) : Option LinkEntry := if c = {} then none else some .notice

/-! ## The lease (R113) -/

/-- The lease deadline of a period, absent for period 0 (R107, R113). -/
def leaseDeadline (now : Clock) (period : Byte) : Option Clock :=
  if period = 0 then none else some (later now (period.toNat * Config.leaseUnit))

/-- Renews the lease of an ATTACHED or CLOSING session. -/
def State.renewLease (s : State) (l : Link) : State :=
  match s.session l with
  | none => s
  | some x => s.setSession l (some { x with deadline := leaseDeadline s.clock x.period })

/-! ## The pool (R76) -/

/-- Pool slots in use: the messages held, over all queues. -/
def State.slotsUsed (s : State) : Nat := (s.queues.map fun e => e.2.messages.length).sum

/-- Free pool slots. -/
def State.slotsFree (s : State) : Nat := Config.poolSize - s.slotsUsed

/-! ## The rotation of an arbiter (R3, R79) -/

/-- The first link, counting upward from the pointer and wrapping, whose head can be taken, with that head. -/
def chooseFrom (pointer : Link) (head : Link → Option Waiting) : Option (Link × Waiting) :=
  (List.range 8).findSome? fun i =>
    let l : Link := pointer + Fin.ofNat 8 i
    (head l).map fun w => (l, w)

/-- The oldest waiting request of the first link that has one at the queue arbiter, whether or not the arbiter is free (R79). -/
def State.queueChoice (s : State) : Option (Link × Waiting) := chooseFrom s.queuePointer fun l => (s.queueLine l).head?

end Sys2Proof.Machine
end

