-- ==== Sys2Proof/Machine/Store.lean ====
section
/-! DEFINITION. Shared operations of the cell store and its neighbours: access and detection (R14, R15), write access (R6), modifications and their
effects (R11, R12), holds (R39, R43, R47), deferral (R44), and the administrative role (R138, R141). -/

namespace Sys2Proof.Machine

/-! ## Holds (R39, R43, R47) -/

/-- The phase is STANDING. -/
def HoldRecord.stands (h : HoldRecord) : Bool :=
  match h.phase with
  | .standing _ => true
  | .ended => false

/-- The link of the session that holds a cell: the holder of its STANDING record (R39). -/
def State.holderOf (s : State) (c : CellIx) : Option Link :=
  (s.holds.find? fun h => decide (h.cell = c) && h.stands).map HoldRecord.holder

/-- Another session holds the cell. -/
def State.heldByOther (s : State) (l : Link) (c : CellIx) : Bool :=
  match s.holderOf c with
  | some k => decide (k ≠ l)
  | none => false

/-- The STANDING record of a session on a cell. -/
def isHoldOf (l : Link) (c : CellIx) (h : HoldRecord) : Bool :=
  decide (h.cell = c) && decide (h.holder = l) && h.stands

/-- Ends the hold of a session on a cell (R47): the record becomes ENDED, its deadline is dropped, and the drain is requested. A hold that
does not stand ends no second time. -/
def State.endHold (s : State) (l : Link) (c : CellIx) : State :=
  if s.holds.any (isHoldOf l c) then
    { s with holds := s.holds.map fun h => if isHoldOf l c h then { h with phase := .ended } else h, drains := s.drains ++ [c] }
  else s

/-- Creates the STANDING record of a grant, with its deadline, and counts it (R43). -/
def State.grantHold (s : State) (l : Link) (c : CellIx) : State :=
  { s with
    holds := s.holds ++ [⟨c, l, .standing (later s.clock s.config.limit)⟩]
    counters := { s.counters with holdsGranted := s.counters.holdsGranted + 1 } }

/-! ## Reservation entries -/

/-- Takes a session's entry to NONE, its failure count kept; an entry that was HELD ends its hold (R17, R28, R29, R32). -/
def State.consumeEntry (s : State) (l : Link) : State :=
  let e := s.entry l
  let s := s.setEntry l { e with reservation := .none }
  match e.reservation with
  | .held c _ => s.endHold l c
  | _ => s

/-- What a modification of a cell makes of an entry: ARMED or HELD on the cell becomes BROKEN, and the entry of a session whose COMMIT is the
modification is left to be consumed (R12, R33). -/
def breakEntry (c : CellIx) (committer : Option Link) (k : Link) (e : Entry) : Entry :=
  if committer = some k then e
  else
    match e.reservation with
    | .armed c' _ => if c' = c then { e with reservation := .broken c } else e
    | .held c' _ => if c' = c then { e with reservation := .broken c } else e
    | _ => e

/-- The entry is HELD on the cell. -/
def heldOn (c : CellIx) (e : Entry) : Bool :=
  match e.reservation with
  | .held c' _ => decide (c' = c)
  | _ => false

/-- Breaks the reservations on a cell; a HELD entry that breaks ends its hold (R33). -/
def State.breakReservations (s : State) (c : CellIx) (committer : Option Link) : State :=
  let broken := { s with entries := mapLinks (breakEntry c committer) s.entries }
  match s.holderOf c with
  | some k => if committer ≠ some k ∧ heldOn c (s.entry k) then broken.endHold k c else broken
  | none => broken

/-! ## Watches (R68) -/

/-- What a modification makes of a watch record. -/
def notifyWatch (c : CellIx) (modifier : Link) (w : Watch) : Watch :=
  if w.cell = c ∧ w.link ≠ modifier then
    { w with pending := some (match w.pending with | none => 1 | some n => saturate Config.coalescedMax n) }
  else w

def State.notifyWatches (s : State) (c : CellIx) (modifier : Link) : State :=
  { s with watches := s.watches.map (notifyWatch c modifier) }

/-- The number of watches of a session. -/
def State.watchCount (s : State) (l : Link) : Nat := (s.watches.filter fun w => decide (w.link = l)).length

/-- The session's watch of a cell. -/
def State.watchOf (s : State) (l : Link) (c : CellIx) : Option Watch := s.watches.find? fun w => decide (w.link = l) && decide (w.cell = c)

/-! ## Modifications (R11, R12, R13) -/

/-- A cell with a value stored: a new check code, poison cleared, the version raised (R11). -/
def Cell.store (x : Cell) (v : Quad) : Cell :=
  { x with value := v, checkFails := false, poisoned := false, version := x.version + 1 }

/-- A modification with all its effects. `modifier` is the modifying session; `committer` is it too when a COMMIT is the modification. -/
def State.modify (s : State) (c : CellIx) (v : Quad) (modifier : Link) (committer : Option Link) : State :=
  let s := s.setCell c ((s.cell c).store v)
  let s := s.breakReservations c committer
  let s := s.notifyWatches c modifier
  { s with modifications := s.modifications + 1 }

/-! ## Write access (R6) -/

def State.hasWriteAccess (s : State) (l : Link) (c : CellIx) : Bool :=
  match (s.cell c).access with
  | .openAll => true
  | .adminWrite => decide (s.admin = some l)
  | .owned host =>
    match s.session l with
    | some x => decide (x.hostId = host)
    | none => false

/-! ## Integrity (R14, R15, R145) -/

/-- A count of detections that stays at 2^32 - 1. -/
def raiseDetections (n : Word) : Word := if n = BitVec.allOnes 32 then n else n + 1

/-- A detection: the cell is poisoned, HUB counts it, and an INTEGRITY report becomes pending for the admin. -/
def State.detect (s : State) (c : CellIx) : State :=
  let s := s.setCell c { s.cell c with poisoned := true, checkFails := false }
  let s := { s with
    counters := { s.counters with detections := raiseDetections s.counters.detections }
    unreported := saturate Config.counterMax s.unreported
    latestCell := some c }
  match s.admin with
  | some a => s.pendIntegrity a
  | none => s

/-- An access that reads the value: the INTEGRITY code it meets, if any, and the state with a detection made (R15, R16). -/
def State.accessCell (s : State) (c : CellIx) : Option FaultCode × State :=
  if (s.cell c).poisoned then (some .poisoned, s)
  else if (s.cell c).checkFails then (some .detected, s.detect c)
  else (none, s)

/-! ## Deferral (R44) -/

/-- Appends a deferred request to the DWQ and counts it. -/
def State.deferRequest (s : State) (e : DwqEntry) : State :=
  { s with
    dwq := s.dwq ++ [e]
    counters := { s.counters with
      deferrals := s.counters.deferrals + 1
      highWater := max s.counters.highWater (s.dwq.length + 1) } }

/-! ## The administrative role (R138, R141) -/

/-- Changes the admin link, with the effects of R141: ROLE reports, and the INTEGRITY report moved from the loser to the gainer. -/
def State.changeAdmin (s : State) (new : Option Link) : State :=
  if s.admin = new then s
  else
    let t := { s with admin := new }
    let t :=
      match s.admin with
      | some old =>
        let t := t.withdrawIntegrity old
        if s.attached old then t.pendRole old else t
      | none => t
    match new with
    | some gainer =>
      let t := t.pendRole gainer
      if 0 < s.unreported then t.pendIntegrity gainer else t
    | none => t

/-- The candidate of an election: the lowest-numbered ATTACHED, admin-eligible session that is not excluded (R138). -/
def State.candidate (s : State) (excluded : Link) : Option Link :=
  allLinks.find? fun l => s.eligible l && decide (l ≠ excluded)

/-- The role leaves its holder and the election runs in the same event (R138). -/
def State.vacateAdmin (s : State) (holder : Link) : State :=
  if s.admin = some holder then s.changeAdmin (s.candidate holder) else s

end Sys2Proof.Machine
end

