-- ==== Sys2Proof/Machine/Faults.lean ====
section
/-! DEFINITION. Dealing with a fault (spec/07): the occurred flag, the policy, the default result, the forward post; and the placing of a
message into a queue (R86, R87), which a forward post shares with POST. -/

namespace Sys2Proof.Machine

/-- A request as FLT meets it: whose it is, its kind, and the fields of its default result (R123, R125). -/
structure Faulting where
  link : Link
  tag : Tag
  kind : Byte
  fields : List Byte
deriving DecidableEq, Repr

/-! ## Placing a message (R76, R77, R86, R91, R94) -/

/-- The head of a list held in posting order: the oldest urgent message if there is one, else the oldest (R77). -/
def headMessage (ms : List Message) : Option Message :=
  match ms.find? Message.urgent with
  | some m => some m
  | none => ms.head?

/-- The list without its head. -/
def dropHead (ms : List Message) : List Message :=
  if ms.any Message.urgent then ms.eraseP Message.urgent else ms.drop 1

/-- The list without its oldest normal message, or its oldest urgent one when every message held is urgent (R77, R86). -/
def dropOldest (ms : List Message) : List Message :=
  if ms.any (fun m => !m.urgent) then ms.eraseP (fun m => !m.urgent) else ms.drop 1

/-- The number of urgent messages. -/
def urgentCount (ms : List Message) : Nat := (ms.filter Message.urgent).length

/-- What came of placing a message. -/
inductive Placed where
  | handed
  | stored (dropped : Bool)
  | queueFull (capacity : Nat)
  | poolEmpty
deriving DecidableEq, Repr

/-- Hands a message to a waiting take: it receives its OK reply with remaining 0, and ends (R91). -/
def State.handOver (s : State) (q : QueueIx) (d : Queue) (w : WaitingTake) (m : Message) : State :=
  (s.setQueue q { d with waitingTake := none }).answer w.link w.tag 0x25 .ok (countByte 0 :: messageFields m)

/-- An ARRIVAL becomes pending for the owner when a message was appended to an empty BOUND queue with notify yes (R94). -/
def State.arrivalEdge (s : State) (q : QueueIx) (d : Queue) : State :=
  match d.owner with
  | some l => if d.notify && d.messages.isEmpty then s.pendArrival l q else s
  | none => s

/-- Places a message in a queue by the first case of R86 that applies. `d` is the queue's descriptor. -/
def State.placeMessage (s : State) (q : QueueIx) (d : Queue) (m : Message) : Placed × State :=
  match d.waitingTake with
  | some w => (.handed, s.handOver q d w m)
  | none =>
    if d.capacity ≤ d.messages.length then
      match d.overflow with
      | .refuse => (.queueFull d.capacity, s)
      | .dropOldest =>
        (.stored true, s.setQueue q { d with messages := dropOldest d.messages ++ [m], drops := saturate Config.dropMax d.drops })
    else if 0 < s.slotsFree then
      (.stored false, (s.setQueue q { d with messages := d.messages ++ [m] }).arrivalEdge q d)
    else (.poolEmpty, s)

/-- Carries out a forward post (R87): no range, state or mask check; the message is the hub's, urgent, with the fault record as payload. Answers
whether it was stored or handed over. -/
def State.placeForward (s : State) (q : QueueIx) (record : List Byte) : Bool × State :=
  match s.queue q with
  | none => (false, s)
  | some d =>
    match s.placeMessage q d ⟨0xFF, 0, s.clock, true, record⟩ with
    | (.handed, t) => (true, t)
    | (.stored _, t) => (true, t)
    | (_, _) => (false, s)

/-! ## FLT (R123 to R128) -/

/-- The policy a session has for a class. -/
def State.policy (s : State) (l : Link) (c : FaultClass) : FaultPolicy := getAt (s.faultRecord l).policies (classIndex c)

/-- Sets the occurred flag of a class (R123). -/
def State.markOccurred (s : State) (l : Link) (c : FaultClass) : State :=
  let r := s.faultRecord l
  s.setFaultRecord l { r with occurred := setAt r.occurred (classIndex c) true }

/-- Sets the forward-lost flag (R127). -/
def State.markLost (s : State) (l : Link) : State :=
  let r := s.faultRecord l
  s.setFaultRecord l { r with lost := true }

/-- The FAULT reply (R124). -/
def State.answerFault (s : State) (o : Faulting) (f : HubFault) : State := s.answer o.link o.tag o.kind .fault (faultFields f)

/-- The reply with the default result (R125, R126). -/
def State.answerDefault (s : State) (o : Faulting) (lost : Bool) : State :=
  s.answer o.link o.tag o.kind (if lost then .okDefaultLost else .okDefault) o.fields

/-- The outcome of a forward post comes back to FLT, which sets the status from it (R126, R127). -/
def State.finishForward (s : State) (o : Faulting) (placed : Bool) : State :=
  if placed then s.answerDefault o false else (s.markLost o.link).answerDefault o true

/-- A fault raised outside QUE reaches FLT (R123). Under FORWARD with a designation the post becomes pending at the queue arbiter, and the operation is
complete only when it has been taken (R80); `resume` is the drain that goes on then. A queue operation that the arbiter is carrying out is finished first:
it can only be the one whose turn it is as the post becomes pending. -/
def State.raise (s : State) (o : Faulting) (f : HubFault) (resume : Option CellIx) : State :=
  let s := s.markOccurred o.link f.code.faultClass
  match s.policy o.link f.code.faultClass with
  | .refuse => s.answerFault o f
  | .absorb => s.answerDefault o false
  | .forward =>
    match (s.faultRecord o.link).designation with
    | none => s.finishForward o false
    | some q =>
      { s with
        forwardPosts := s.forwardPosts ++ [⟨o.link, o.tag, o.kind, o.fields, q, faultRecordBytes f o.kind o.tag, resume, s.queueChoice⟩] }

/-- A fault raised in a queue operation reaches FLT: its forward post is carried out within that operation, after the request's own outcome (R80). -/
def State.raiseInQueue (s : State) (o : Faulting) (f : HubFault) : State :=
  let s := s.markOccurred o.link f.code.faultClass
  match s.policy o.link f.code.faultClass with
  | .refuse => s.answerFault o f
  | .absorb => s.answerDefault o false
  | .forward =>
    match (s.faultRecord o.link).designation with
    | none => s.finishForward o false
    | some q =>
      match s.placeForward q (faultRecordBytes f o.kind o.tag) with
      | (placed, t) => t.finishForward o placed

/-- A FORM fault: always refused; the FORM flag is set when the link has a session (R128). `kind` is the reply's own kind. -/
def State.refuseForm (s : State) (l : Link) (tag : Tag) (kind : Byte) (f : HubFault) : State :=
  let s := if (s.session l).isSome then s.markOccurred l .form else s
  s.placeReply l ⟨kind, tag, .fault, faultFields f⟩

end Sys2Proof.Machine
end

