-- ==== Sys2Proof/Machine/Drain.lean ====
section
/-! DEFINITION. What a WRITE, FETCH_ADD or COMMIT does once it is not turned aside, direct or from the DWQ; the drain (R54 to R56); the
taking of a forward post (R80, R87). -/

namespace Sys2Proof.Machine

/-- Default results of the deferrable requests: every field 0 but the deferred mark (R56, R125, R169). -/
def writeDefault (deferred : Bool) : List Byte := le 4 (0 : Word) ++ [flagByte deferred]
def fetchAddDefault (deferred : Bool) : List Byte := le 8 (0 : Quad) ++ le 4 (0 : Word) ++ [flagByte deferred]
def commitDefault (deferred : Bool) : List Byte := le 4 (0 : Word) ++ [countByte 0, flagByte deferred]

/-- An INTEGRITY fault: its detail is the cell's version (R121). -/
def State.integrityFault (s : State) (c : CellIx) (code : FaultCode) : HubFault := ⟨code, cellSubject c, (s.cell c).version⟩

/-- The fault of a session without write access (R6, R121). -/
def State.accessFault (s : State) (c : CellIx) : HubFault := ⟨.cellClass, cellSubject c, cellClassDetail (s.cell c).access⟩

/-- A WRITE that is applied (R8, R55): the value is not read, so no check failure is found. -/
def State.applyWrite (s : State) (l : Link) (tag : Tag) (c : CellIx) (v : Quad) (deferred : Bool) : State :=
  let s := s.modify c v l none
  s.answer l tag 0x11 .ok (le 4 (s.cell c).version ++ [flagByte deferred])

/-- A FETCH_ADD that is applied, or meets poison or a check failure (R9, R16, R55). -/
def State.applyFetchAdd (s : State) (l : Link) (tag : Tag) (c : CellIx) (delta : Quad) (deferred : Bool)
    (resume : Option CellIx) : State :=
  match s.accessCell c with
  | (some code, t) => t.raise ⟨l, tag, 0x12, fetchAddDefault deferred⟩ (t.integrityFault c code) resume
  | (none, t) =>
    let old := (t.cell c).value
    let t := t.modify c (old + delta) l none
    t.answer l tag 0x12 .ok (le 8 old ++ le 4 (t.cell c).version ++ [flagByte deferred])

/-- A COMMIT judged a success (R28). -/
def State.commitSucceeds (s : State) (l : Link) (tag : Tag) (c : CellIx) (v : Quad) (deferred : Bool) : State :=
  let s := (s.modify c v l (some l)).consumeEntry l
  let s := s.setEntry l { s.entry l with failures := 0 }
  let s := { s with counters := { s.counters with commits := s.counters.commits + 1 } }
  s.answer l tag 0x19 .ok (le 4 (s.cell c).version ++ [countByte 0, flagByte deferred])

/-- A COMMIT answered CONFLICT (R29). -/
def State.commitConflicts (s : State) (l : Link) (tag : Tag) (c : CellIx) (deferred : Bool) : State :=
  let s := s.consumeEntry l
  let failures := saturate Config.failureMax (s.entry l).failures
  let s := s.setEntry l { s.entry l with failures := failures }
  let s := { s with counters := { s.counters with conflicts := s.counters.conflicts + 1 } }
  s.answer l tag 0x19 .conflict (le 4 (s.cell c).version ++ [countByte failures, flagByte deferred])

/-- A COMMIT whose entry is ARMED or HELD on the cell reads the stored value first (R17, R27). -/
def State.commitArmed (s : State) (l : Link) (tag : Tag) (c : CellIx) (v : Quad) (deferred : Bool) (resume : Option CellIx) : State :=
  match s.accessCell c with
  | (some code, t) =>
    (t.consumeEntry l).raise ⟨l, tag, 0x19, commitDefault deferred⟩ (t.integrityFault c code) resume
  | (none, t) => t.commitSucceeds l tag c v deferred

/-- A COMMIT without a matching reservation: a STATE fault, the entry left as it was (R30). -/
def State.commitUnmatched (s : State) (l : Link) (tag : Tag) (c : CellIx) (code : FaultCode) (deferred : Bool)
    (resume : Option CellIx) : State :=
  s.raise ⟨l, tag, 0x19, commitDefault deferred⟩ ⟨code, cellSubject c, reservationDetail (s.entry l).reservation⟩ resume

/-- The judgement of a COMMIT by its session's entry (R27). -/
def State.judgeCommit (s : State) (l : Link) (tag : Tag) (c : CellIx) (v : Quad) (deferred : Bool) (resume : Option CellIx) : State :=
  match (s.entry l).reservation with
  | .none => s.commitUnmatched l tag c .noReservation deferred resume
  | .broken c' => if c' = c then s.commitConflicts l tag c deferred else s.commitUnmatched l tag c .otherCell deferred resume
  | .armed c' _ => if c' = c then s.commitArmed l tag c v deferred resume else s.commitUnmatched l tag c .otherCell deferred resume
  | .held c' _ => if c' = c then s.commitArmed l tag c v deferred resume else s.commitUnmatched l tag c .otherCell deferred resume

/-- The kind code of a deferred request (R41, R169). -/
def dwqKindByte : DwqKind → Byte
  | .write => 0x11 | .fetchAdd => 0x12 | .commit => 0x19

/-- The default result of a deferred request. -/
def dwqDefault : DwqKind → List Byte
  | .write => writeDefault true | .fetchAdd => fetchAddDefault true | .commit => commitDefault true

/-- One DWQ entry judged by the drain (R55). -/
def State.judgeDeferred (s : State) (e : DwqEntry) : State :=
  if s.hasWriteAccess e.link e.cell then
    match e.kind with
    | .write => s.applyWrite e.link e.tag e.cell e.operand true
    | .fetchAdd => s.applyFetchAdd e.link e.tag e.cell e.operand true (some e.cell)
    | .commit => s.judgeCommit e.link e.tag e.cell e.operand true (some e.cell)
  else s.raise ⟨e.link, e.tag, dwqKindByte e.kind, dwqDefault e.kind⟩ (s.accessFault e.cell) (some e.cell)

/-- The entries of a drain, in queue order, each removed and answered before the next (R54). It pauses while an entry's forward post is
pending (R80); the first argument bounds the entries taken. -/
def drainEntries (c : CellIx) : Nat → State → State
  | 0, s => s
  | n + 1, s =>
    if s.forwardPosts.isEmpty then
      match s.dwq.find? (fun e => decide (e.cell = c)) with
      | none => s
      | some e =>
        drainEntries c n (State.judgeDeferred { s with dwq := s.dwq.eraseP (fun e => decide (e.cell = c)) } e)
    else s

/-- The rest of a drain. -/
def State.drainRest (s : State) (c : CellIx) : State := drainEntries c s.dwq.length s

/-- The drain of the oldest request: its ENDED record is removed, then its entries are taken (R4, R54). -/
def State.takeDrain (s : State) : State :=
  match s.drains with
  | [] => s
  | c :: rest =>
    State.drainRest { s with drains := rest, holds := s.holds.filter fun h => !(decide (h.cell = c) && !h.stands) } c

/-- A drain that a forward post interrupted can go on with its next entry, if it has one (R80). -/
def State.pauseDrain (s : State) (c : CellIx) : State :=
  if s.dwq.any (fun e => decide (e.cell = c)) then { s with draining := some c } else s

/-- The drain in progress goes on with its next entry (R54, R80). -/
def State.resumeDrain (s : State) : State :=
  match s.draining with
  | some c => State.drainRest { s with draining := none } c
  | none => s

/-- An operation of another block is in progress: it waits for its forward post, or it is a drain that has not gone on to its next entry yet (R80). -/
def State.inProgress (s : State) : Bool := !s.forwardPosts.isEmpty || s.draining.isSome

/-- The queue arbiter takes the oldest pending forward post; its outcome completes the faulting request or the DWQ entry, whose drain can then go on
(R80, R87, R126). -/
def State.takeForwardPost (s : State) : State :=
  match s.forwardPosts with
  | [] => s
  | p :: rest =>
    match State.placeForward { s with forwardPosts := rest } p.queue p.record with
    | (placed, t) =>
      let t := t.finishForward ⟨p.link, p.tag, p.kind, p.fields⟩ placed
      match p.resume with
      | none => t
      | some c => t.pauseDrain c

/-- Takes forward posts, the drain in progress going on between them, until none is pending. Each new one comes from a DWQ entry that is gone, so the bound is
never short. -/
def settlePosts : Nat → State → State
  | 0, s => s.resumeDrain
  | n + 1, s =>
    if s.forwardPosts.isEmpty then
      if s.resumeDrain.forwardPosts.isEmpty then s.resumeDrain else settlePosts n s.resumeDrain.takeForwardPost
    else settlePosts n s.takeForwardPost

/-- Completes the operation in progress (R80). -/
def State.finishOperation (s : State) : State := settlePosts (s.forwardPosts.length + s.dwq.length) s

end Sys2Proof.Machine
end

