-- ==== Sys2Proof/Machine/Teardown.lean ====
section
/-! DEFINITION. The end of a session, clean and abrupt (R115 to R118), RESYNC (R161), the beginning of a reset (R148, R149, R162), and the settling of what
is due before another event is taken. -/

namespace Sys2Proof.Machine

/-- A queue after the teardown of its owner: UNBOUND, its messages kept, a waiting take discarded (R98). -/
def Queue.unbindFrom (l : Link) (d : Queue) : Queue :=
  if d.owner = some l then { d with owner := none, waitingTake := none } else d

/-- The effects that a teardown hands to the blocks (R115). -/
def State.teardownEffects (s : State) (l : Link) : State :=
  let s := (s.consumeEntry l).setEntry l {}
  let s := { s with
    dwq := s.dwq.filter fun e => decide (e.link ≠ l)
    watches := s.watches.filter fun w => decide (w.link ≠ l)
    queues := s.queues.map fun e : QueueIx × Queue => (e.1, e.2.unbindFrom l) }
  let s := (s.setFaultRecord l {}).setSession l none
  s.vacateAdmin l

/-- Every request of the link is discarded without a reply, wherever it waits, its reply queue flushed and its pending report set emptied
(R116, steps 1 to 3; R161, steps 2 to 4). DWQ entries and waiting takes go with the teardown's effects. -/
def State.clearLink (s : State) (l : Link) : State :=
  ((s.setCellLine l []).setQueueLine l []).updLink l fun u =>
    { u with tags := [], heldFrames := [], inbox := [], replies := [], reports := {} }

/-- The SESSION_ENDED of the session on a link, its content fixed now (R118); none on a DETACHED link. -/
def State.sessionEndedOf (s : State) (l : Link) (reason : EndReason) : Option SessionEnded :=
  (s.session l).map fun x => ⟨reason, x.hostId, s.inFlight l⟩

/-- An abrupt teardown by lease expiry (R114, R116, R118). -/
def State.leaseTeardown (s : State) (l : Link) : State :=
  let ended := s.sessionEndedOf l .lease
  ((s.teardownEffects l).clearLink l).updLink l fun u =>
    { u with reports := { sessionEnded := ended, linkEntry := noticeIfCounted u.counters } }

/-- RESYNC on a link (R161, steps 1 to 7). -/
def State.doResync (s : State) (l : Link) : State :=
  let ended := s.sessionEndedOf l .resync
  let s := if (s.session l).isSome then s.teardownEffects l else s
  (s.clearLink l).updLink l fun u =>
    { u with counters := {}, reports := { sessionEnded := ended, linkEntry := some .resyncDone } }

/-- A RESYNC at its arrival: held while a reset request stands, a second one merged into it, otherwise taken (R161). -/
def State.takeResync (s : State) (l : Link) : State :=
  if s.resetStands then s.updLink l fun u => { u with heldResync := true } else s.doResync l

/-- The clean teardown, with the reply to the CLOSE that is the last request in flight (R117). -/
def State.cleanTeardown (s : State) (l : Link) (closeTag : Tag) : State :=
  let host := s.hostId l
  let owned := fun q => decide (((s.queue q).bind Queue.owner) = some l)
  let t := (s.teardownEffects l).updReports l fun r =>
    { r with role := false, integrity := false, arrivals := r.arrivals.filter fun q => !owned q }
  t.answer l closeTag 0x02 .ok (le 2 host)

/-- The tag of the CLOSE of a session whose clean teardown is due: CLOSING, with that one request in flight (R110). -/
def State.closeDue (s : State) (l : Link) : Option Tag :=
  match s.session l with
  | some x =>
    if x.phase = .closing then
      match (s.link l).tags with
      | [tag] => some tag
      | _ => none
    else none
  | none => none

/-- Runs the clean teardown of a link if it is due. -/
def State.finishClose (s : State) (l : Link) : State :=
  match s.closeDue l with
  | some tag => s.cleanTeardown l tag
  | none => s

/-- What is due before an event that falls inside no operation: the operation in progress is completed (R80), and every clean
teardown that is due follows at once (R109, R110). While a reset request stands no work is taken (R147). -/
def State.settle (s : State) : State :=
  if s.resetStands then s else allLinks.foldl State.finishClose s.finishOperation

/-- Nothing is due before another event: no operation is in progress, and no clean teardown is due. -/
def State.settled (s : State) : Bool :=
  !s.inProgress && allLinks.all fun l => (s.closeDue l).isNone

/-- A receiver whose latest byte's time is counted on a hub clock set back by `by`: the time gone since that byte is kept. -/
def Receiver.rebase (back : Clock) : Receiver → Receiver
  | .hunt => .hunt
  | .length t => .length (t - back)
  | .collect got t => .collect got (t - back)

/-- A link unit at the beginning of a reset (R148, R162): counters, receiver and the frame being sent are kept. `back` is what the hub clock is set back
by; the gap of a partial frame goes on from the time already gone (log 24). -/
def LinkUnit.resetBegun (back : Clock) (u : LinkUnit) : LinkUnit :=
  { u with
    receiver := u.receiver.rebase back
    tags := [], heldFrames := [], inbox := [], replies := [], reports := { linkEntry := noticeIfCounted u.counters } }

/-- A held RESYNC, taken on the DETACHED link when the reset has begun (R161, R162). -/
def LinkUnit.takeHeldResync (u : LinkUnit) : LinkUnit :=
  if u.heldResync then { u with heldResync := false, counters := {}, reports := { linkEntry := some .resyncDone } } else u

/-- The reset begins (R148), with what its scope decides (R149). -/
def State.beginReset (s : State) (scope : Scope) : State :=
  { s with
    hubState := .resetting
    resetRequest := none
    sessions := Vector.replicate 8 none
    links := mapLinks (fun _ u => (u.resetBegun (match scope with | .clear => s.clock | .keepCells => 0)).takeHeldResync) s.links
    cells := match scope with | .clear => [] | .keepCells => s.cells
    scrubbing := match scope with | .clear => true | .keepCells => false
    modifications := 0
    cellPointer := 0
    cellLines := Vector.replicate 8 []
    drains := []
    draining := none
    entries := Vector.replicate 8 {}
    holds := []
    dwq := []
    watches := []
    queues := []
    queuePointer := 0
    queueLines := Vector.replicate 8 []
    forwardPosts := []
    faults := Vector.replicate 8 {}
    admin := none
    config := match scope with | .clear => {} | .keepCells => s.config
    clock := match scope with | .clear => 0 | .keepCells => s.clock
    unreported := 0
    latestCell := none
    counters := {} }

end Sys2Proof.Machine
end

