-- ==== Sys2Proof/Machine/Taking.lean ====
section
/-! DEFINITION. Who takes a request, and when: SES at arrival (R104, R105), the two arbiters in rotation (R3, R79), RSV and WCH in the link's order
(R21, R64), SES, FLT and HUB from the requests handed to SES (R104, R133, R137). -/

namespace Sys2Proof.Machine

/-! ## SES at arrival (R104, R105) -/

/-- The owning block of a request, by how it takes it (R104): SES, FLT and HUB at arrival, the link's cell line (the cell-store arbiter, with RSV and
WCH keeping the link's order), or the queue arbiter's line. -/
inductive Destination where
  | atArrival | cellLine | queueLine
deriving DecidableEq, Repr

def destination : Request → Destination
  | .openSession .. | .closeSession | .ping _ | .querySession => .atArrival
  | .setPolicy .. | .clearFaults | .setForward _ => .atArrival
  | .yieldAdmin _ | .configure .. | .hubReset _ | .queryHub => .atArrival
  | .read _ | .write .. | .fetchAdd .. | .setCellClass .. | .reserve _ | .commit .. | .watch _ | .release | .unwatch _ => .cellLine
  | .createQueue .. | .destroyQueue _ | .bind _ | .unbind _ | .post .. | .take .. | .peek _ | .queryQueue _ => .queueLine

/-- What SES does with a request: leaves it to be taken at arrival, hands it on, or answers it by the session's state. -/
inductive Verdict where
  | stay
  | handOn (d : Destination)
  | answer (status : Status)
deriving DecidableEq, Repr

def isOpen : Request → Bool
  | .openSession .. => true
  | _ => false

def isPing : Request → Bool
  | .ping _ => true
  | _ => false

/-- The table of R104. -/
def State.verdict (s : State) (l : Link) (r : Request) : Verdict :=
  match s.session l with
  | none =>
    if isOpen r then (if s.hubState = .ready then .stay else .answer .resetting) else .answer .noSession
  | some x =>
    match x.phase with
    | .closing => if isPing r then .stay else .answer .closing
    | .attached =>
      match destination r with
      | .atArrival => .stay
      | d => .handOn d

/-- Hands a request on to a line. -/
def State.handOn (s : State) (l : Link) (w : Waiting) : Destination → State
  | .cellLine => s.setCellLine l (s.cellLine l ++ [w])
  | .queueLine => s.setQueueLine l (s.queueLine l ++ [w])
  | .atArrival => s

/-- SES looks at the requests of a link that have arrived, in their order: it hands on and answers until one is to be taken at arrival. -/
def routeArrived (l : Link) : List Waiting → State → State
  | [], s => s
  | w :: rest, s =>
    match s.verdict l w.request with
    | .stay => s
    | .handOn d => routeArrived l rest ((s.updLink l fun u => { u with inbox := rest }).handOn l w d)
    | .answer status =>
      routeArrived l rest ((s.updLink l fun u => { u with inbox := rest }).answer l w.tag (requestKind w.request) status [])

/-- SES takes nothing while a reset request stands (R147). -/
def State.route (s : State) (l : Link) : State :=
  if s.resetStands then s else routeArrived l (s.link l).inbox s

/-- SES, FLT or HUB takes the oldest request of a link's arrivals. -/
def State.takeArrived (s : State) (l : Link) (w : Waiting) : Option State :=
  if s.resetStands = false ∧ (s.link l).inbox.head? = some w ∧ s.verdict l w.request = .stay then
    some (s.updLink l fun u => { u with inbox := u.inbox.drop 1 })
  else none

/-! ## The arbiters -/

/-- A request that the cell-store arbiter takes (R3), as against RELEASE and UNWATCH. -/
def isCellOperation : Request → Bool
  | .release | .unwatch _ => false
  | _ => true

/-- The oldest request of a link that waits at the cell-store arbiter (R3); a RELEASE or UNWATCH in the line waits at RSV or WCH and is passed over. -/
def State.cellHead (s : State) (l : Link) : Option Waiting := (s.cellLine l).find? fun w => isCellOperation w.request

/-- The request whose turn it is at the cell-store arbiter: none while a drain is pending (R3, R4) or a reset request stands (R147). -/
def State.cellTurn (s : State) : Option (Link × Waiting) :=
  if s.resetStands || !s.drains.isEmpty then none else chooseFrom s.cellPointer s.cellHead

/-- The request whose turn it is at the queue arbiter: none while a forward post is pending (R79, R80) or a reset request stands (R147). -/
def State.queueTurn (s : State) : Option (Link × Waiting) :=
  if s.resetStands || !s.forwardPosts.isEmpty then none else s.queueChoice

/-- The cell-store arbiter takes a request whose turn it is; its pointer goes to the next link. A RELEASE or UNWATCH ahead of the request in the link's
order is taken first (R21, R64), and until then the turn stays with that link (log 17). -/
def State.takeCell (s : State) (l : Link) (w : Waiting) : Option State :=
  if s.cellTurn = some (l, w) ∧ (s.cellLine l).head? = some w then
    some { s.setCellLine l ((s.cellLine l).drop 1) with cellPointer := l + 1 }
  else none

/-- The queue arbiter takes a request whose turn it is; its pointer goes to the next link. -/
def State.takeQueue (s : State) (l : Link) (w : Waiting) : Option State :=
  if s.queueTurn = some (l, w) then some { s.setQueueLine l ((s.queueLine l).drop 1) with queuePointer := l + 1 } else none

/-- The request that the queue arbiter can take or finish inside the operation in progress of another block (R80): while a forward post is pending, the one it
was carrying out; between two entries of a drain, the one whose turn it is. -/
def State.insideTurn (s : State) : Option (Link × Waiting) :=
  match s.forwardPosts with
  | p :: _ => if s.resetStands then none else p.carrying
  | [] => if s.draining.isSome then s.queueTurn else none

/-- The queue arbiter takes a request inside the operation in progress; once finished it is carried out no longer. -/
def State.takeInside (s : State) (l : Link) (w : Waiting) : Option State :=
  if s.insideTurn = some (l, w) ∧ (s.queueLine l).head? = some w then
    some { s.setQueueLine l ((s.queueLine l).drop 1) with
      queuePointer := l + 1, forwardPosts := s.forwardPosts.map fun p => { p with carrying := none } }
  else none

/-- RSV or WCH takes a RELEASE or UNWATCH when every earlier cell request of its link has been taken (R21, R64). -/
def State.takeInOrder (s : State) (l : Link) (w : Waiting) : Option State :=
  if s.resetStands = false ∧ (s.cellLine l).head? = some w then some (s.setCellLine l ((s.cellLine l).drop 1)) else none

/-! ## A command's step

Each first settles what is due, but for a request that the queue arbiter takes inside the operation in progress (R80, R127). A command whose event cannot
come is not taken: nothing changes (log 7). -/

/-- A command of the cell-store arbiter. -/
def State.commandCell (s : State) (l : Link) (tag : Tag) (r : Request) (operation : State → State) : Result :=
  match s.settle.takeCell l ⟨tag, r⟩ with
  | some t => .next (operation t)
  | none => .next s

/-- A command of the queue arbiter. -/
def State.commandQueue (s : State) (l : Link) (tag : Tag) (r : Request) (operation : State → State) : Result :=
  match s.takeInside l ⟨tag, r⟩ with
  | some t => .next (operation t)
  | none =>
    match s.settle.takeQueue l ⟨tag, r⟩ with
    | some t => .next (operation t)
    | none => .next s

/-- A command of RSV or WCH in the link's order. -/
def State.commandInOrder (s : State) (l : Link) (tag : Tag) (r : Request) (operation : State → State) : Result :=
  match s.settle.takeInOrder l ⟨tag, r⟩ with
  | some t => .next (operation t)
  | none => .next s

/-- A command of SES, FLT or HUB at arrival; SES then looks at the link's next arrivals. -/
def State.commandAtArrival (s : State) (l : Link) (tag : Tag) (r : Request) (operation : State → State) : Result :=
  match s.settle.takeArrived l ⟨tag, r⟩ with
  | some t => .next ((operation t).route l)
  | none => .next s

end Sys2Proof.Machine
end

