-- ==== Sys2Proof/Machine/Cells.lean ====
section
/-! DEFINITION. The cell requests: READ (R7), WRITE (R8), FETCH_ADD (R9), SET_CELL_CLASS (R10), checked in the order of R5. -/

namespace Sys2Proof.Machine

/-- The RANGE fault of a cell index above 1023 (R121). -/
def cellRangeFault (cell : Half) : HubFault := ⟨.cellIndex, cell, 0⟩

/-- A modification of a cell held by another session is deferred, or finds the DWQ full (R44, R46). -/
def State.turnAside (s : State) (o : Faulting) (e : DwqEntry) : State :=
  if Config.dwqSize ≤ s.dwq.length then
    s.raise o ⟨.dwqFull, cellSubject e.cell, BitVec.ofNat 32 s.dwq.length⟩ none
  else s.deferRequest e

/-- READ: its default result. -/
def readDefault : List Byte := le 8 (0 : Quad) ++ le 4 (0 : Word)

def State.takeRead (s : State) (l : Link) (tag : Tag) (cell : Half) : State :=
  let o : Faulting := ⟨l, tag, 0x10, readDefault⟩
  match cellOf cell with
  | none => s.raise o (cellRangeFault cell) none
  | some c =>
    match s.accessCell c with
    | (some code, t) => t.raise o (t.integrityFault c code) none
    | (none, t) => t.answer l tag 0x10 .ok (le 8 (t.cell c).value ++ le 4 (t.cell c).version)

/-- READ (R5, R7, R16). -/
def execRead (link : Link) (tag : Tag) (cell : Half) (s : State) : Result :=
  s.commandCell link tag (.read cell) fun t => t.takeRead link tag cell

def State.takeWrite (s : State) (l : Link) (tag : Tag) (cell : Half) (v : Quad) : State :=
  let o : Faulting := ⟨l, tag, 0x11, writeDefault false⟩
  match cellOf cell with
  | none => s.raise o (cellRangeFault cell) none
  | some c =>
    if s.hasWriteAccess l c = false then s.raise o (s.accessFault c) none
    else if s.heldByOther l c then s.turnAside o ⟨l, tag, .write, c, v⟩
    else s.applyWrite l tag c v false

/-- WRITE (R5, R8, R44). -/
def execWrite (link : Link) (tag : Tag) (cell : Half) (value : Quad) (s : State) : Result :=
  s.commandCell link tag (.write cell value) fun t => t.takeWrite link tag cell value

def State.takeFetchAdd (s : State) (l : Link) (tag : Tag) (cell : Half) (delta : Quad) : State :=
  let o : Faulting := ⟨l, tag, 0x12, fetchAddDefault false⟩
  match cellOf cell with
  | none => s.raise o (cellRangeFault cell) none
  | some c =>
    if s.hasWriteAccess l c = false then s.raise o (s.accessFault c) none
    else if s.heldByOther l c then s.turnAside o ⟨l, tag, .fetchAdd, c, delta⟩
    else s.applyFetchAdd l tag c delta false none

/-- FETCH_ADD (R5, R9, R44). -/
def execFetchAdd (link : Link) (tag : Tag) (cell : Half) (delta : Quad) (s : State) : Result :=
  s.commandCell link tag (.fetchAdd cell delta) fun t => t.takeFetchAdd link tag cell delta

/-- The class that SET_CELL_CLASS sets: the owner is kept only with OWNED (R10). -/
def accessOf (cls : CellClass) (owner : Half) : CellAccess :=
  match cls with
  | .openAll => .openAll
  | .adminWrite => .adminWrite
  | .owned => .owned owner

def State.takeSetCellClass (s : State) (l : Link) (tag : Tag) (cell : Half) (cls : CellClass) (owner : Half) : State :=
  let o : Faulting := ⟨l, tag, 0x13, [0] ++ le 2 (0 : Half)⟩
  match cellOf cell with
  | none => s.raise o (cellRangeFault cell) none
  | some c =>
    if cls = .owned ∧ owner = 0 then s.raise o ⟨.hostId, cellSubject c, 0⟩ none
    else if s.admin ≠ some l then s.raise o ⟨.notAdmin, cellSubject c, 0⟩ none
    else
      let before := (s.cell c).access
      (s.setCell c { s.cell c with access := accessOf cls owner }).answer l tag 0x13 .ok
        ([accessByte before] ++ le 2 (accessOwner before))

/-- SET_CELL_CLASS (R5, R10). -/
def execSetCellClass (link : Link) (tag : Tag) (cell : Half) (cls : CellClass) (owner : Half) (s : State) : Result :=
  s.commandCell link tag (.setCellClass cell cls owner) fun t => t.takeSetCellClass link tag cell cls owner

end Sys2Proof.Machine
end

