-- ==== Sys2Proof/Machine/HubControl.lean ====
section
/-! DEFINITION. Hub control's requests: YIELD_ADMIN (R140), CONFIGURE (R143), HUB_RESET (R147), QUERY_HUB (R150). -/

namespace Sys2Proof.Machine

/-- An admin-only hub request from a session that is not admin: subject 0 (R121). -/
def hubAdminFault : HubFault := ⟨.notAdmin, 0, 0⟩

/-- The reply to a YIELD_ADMIN that passes: the admin link after the request (R140). -/
def State.answerYield (s : State) (l : Link) (tag : Tag) : State := s.answer l tag 0x33 .ok [linkByte s.admin]

def State.takeYield (s : State) (l : Link) (tag : Tag) (target : Byte) : State :=
  let o : Faulting := ⟨l, tag, 0x33, [0]⟩
  if target = 0xFF then
    if s.admin ≠ some l then s.raise o hubAdminFault none
    else
      match s.candidate l with
      | none => s.raise o ⟨.adminAlone, 0, 0⟩ none
      | some _ => (s.vacateAdmin l).answerYield l tag
  else
    match linkOf target with
    | none => s.raise o ⟨.linkIndex, target.setWidth 16, 0⟩ none
    | some k =>
      if s.admin ≠ some l then s.raise o hubAdminFault none
      else if k = l then s.answerYield l tag
      else if s.eligible k then (s.changeAdmin (some k)).answerYield l tag
      else s.raise o ⟨.adminTarget, target.setWidth 16, 0⟩ none

/-- YIELD_ADMIN (R140). -/
def execYieldAdmin (link : Link) (tag : Tag) (target : Byte) (s : State) : Result :=
  s.commandAtArrival link tag (.yieldAdmin target) fun t => t.takeYield link tag target

def State.takeConfigure (s : State) (l : Link) (tag : Tag) (threshold limit : Byte) (label : Half) : State :=
  let o : Faulting := ⟨l, tag, 0x34, [0, 0] ++ le 2 (0 : Half)⟩
  if 15 < threshold.toNat then s.raise o ⟨.configValue, 0, threshold.setWidth 32⟩ none
  else if limit = 0 then s.raise o ⟨.configValue, 1, limit.setWidth 32⟩ none
  else if s.admin ≠ some l then s.raise o hubAdminFault none
  else
    let old := s.config
    State.answer { s with config := ⟨threshold.toNat, limit.toNat, label⟩ } l tag 0x34 .ok
      ([countByte old.threshold, countByte old.limit] ++ le 2 old.label)

/-- CONFIGURE (R143). -/
def execConfigure (link : Link) (tag : Tag) (threshold limit : Byte) (label : Half) (s : State) : Result :=
  s.commandAtArrival link tag (.configure threshold limit label) fun t => t.takeConfigure link tag threshold limit label

def State.takeHubReset (s : State) (l : Link) (tag : Tag) (scope : Scope) : State :=
  if s.admin ≠ some l then s.raise ⟨l, tag, 0x35, [0]⟩ hubAdminFault none
  else { s.answer l tag 0x35 .ok [scopeByte scope] with resetRequest := some ⟨scope, l⟩ }

/-- HUB_RESET (R147): the reply is placed and the reset request set; the reset begins when the reply has been sent. -/
def execHubReset (link : Link) (tag : Tag) (scope : Scope) (s : State) : Result :=
  s.commandAtArrival link tag (.hubReset scope) fun t => t.takeHubReset link tag scope

/-- The fields of the QUERY_HUB reply (R150, R171). -/
def State.hubFields (s : State) : List Byte :=
  let k := s.counters
  le 2 Config.partCode ++ [Config.revision] ++ le 2 s.config.label ++
    [linkByte s.admin, countByte s.config.threshold, countByte s.config.limit] ++
    le 4 s.modifications ++ le 4 k.commits ++ le 4 k.conflicts ++ le 4 k.holdsGranted ++ le 4 k.holdsExpired ++ le 4 k.deferrals ++
    [countByte k.highWater] ++ le 2 (BitVec.ofNat 16 s.slotsFree) ++ le 4 k.detections ++
    le 2 (match s.latestCell with | some c => cellSubject c | none => (0xFFFF : Half)) ++ le 4 s.clock

def State.takeQueryHub (s : State) (l : Link) (tag : Tag) : State := s.answer l tag 0x36 .ok s.hubFields

/-- QUERY_HUB (R150). -/
def execQueryHub (link : Link) (tag : Tag) (s : State) : Result :=
  s.commandAtArrival link tag .queryHub fun t => t.takeQueryHub link tag

end Sys2Proof.Machine
end

