-- ==== Sys2Proof/Machine/Links.lean ====
section
/-! DEFINITION. The link units: LINE_BYTE_ARRIVAL and PARTIAL_TIMEOUT (R152 to R155, R167), RESYNC (R161), TRANSMITTER_CHOICE and FRAME_SENT (R159). -/

namespace Sys2Proof.Machine

/-! ## The window (R155, R167) -/

/-- The kind and body checks of an accepted frame: a FORM fault is answered at once, a request is handed to SES (R128, R155, R167). -/
def State.checkAccepted (s : State) (l : Link) (f : RawFrame) : State :=
  match checkBody f.kind f.body with
  | .ok r => (s.updLink l fun u => { u with inbox := u.inbox ++ [⟨f.tag, r⟩] }).route l
  | .error e =>
    s.refuseForm l f.tag (if e.code = .unknownKind then unknownReplyKind else replyKind f.kind) e

/-- A valid frame other than RESYNC meets the window (R155): overrun, duplicate tag, or accepted; while a reset request stands an accepted frame is held
with its body unchecked. -/
def State.windowFrame (s : State) (l : Link) (f : RawFrame) : State :=
  let u := s.link l
  if Config.window ≤ u.tags.length + u.replies.length then s.countError l .overruns
  else if f.tag ∈ u.tags then s.countError l .duplicateTags
  else
    let s := s.updLink l fun u => { u with tags := u.tags ++ [f.tag] }
    if s.resetStands then s.updLink l fun u => { u with heldFrames := u.heldFrames ++ [f] } else s.checkAccepted l f

/-- A frame that passed its CRC (R154): the lease is renewed, then a RESYNC is taken as such, and any other frame meets the window. -/
def State.validFrame (s : State) (l : Link) (f : RawFrame) : State :=
  let s := s.renewLease l
  if f.kind = resyncKind then s.takeResync l else s.windowFrame l f

/-! ## The receiver (R152 to R154) -/

/-- Takes bytes of a link's line from HUNT. A discarded frame's bytes after its SYNC are taken again from HUNT (R153), which is why the scan goes
on with `rest` itself; a valid frame's bytes are passed over (`skip`). A frame not complete at the end of the bytes stays as the partial frame, its
latest byte arriving now; after a gap discard it is discarded in turn as a further partial timeout (R153). -/
def scanBytes (gap : Bool) (l : Link) : Nat → List Byte → State → State
  | _, [], s => s
  | skip + 1, _ :: rest, s => scanBytes gap l skip rest s
  | 0, b :: rest, s =>
    if b = sync then
      match parseFrame rest with
      | .incomplete =>
        if gap then scanBytes gap l 0 rest (s.countError l .partialTimeouts)
        else s.updLink l fun u =>
          { u with receiver := if rest.isEmpty then .length s.clock else .collect rest s.clock }
      | .badLength => scanBytes gap l 0 rest (s.countError l .lengthErrors)
      | .badCrc => scanBytes gap l 0 rest (s.countError l .crcErrors)
      | .frame kind tag body size => scanBytes gap l size rest (s.validFrame l ⟨kind, tag, body⟩)
    else scanBytes gap l 0 rest (s.countError l .noise)

/-- The receiver of a link in HUNT, its partial frame empty. -/
def State.hunt (s : State) (l : Link) : State := s.updLink l fun u => { u with receiver := .hunt }

/-- The bytes of the partial frame, its SYNC first; none in HUNT. -/
def partialBytes : Receiver → List Byte
  | .hunt => []
  | .length _ => [sync]
  | .collect got _ => sync :: got

/-- The gap of a partial frame has run out: 3 ms since its latest byte (R152). In HUNT no gap is timed. -/
def State.gapDue (s : State) (l : Link) : Bool :=
  match (s.link l).receiver with
  | .hunt => false
  | .length t => reached s.clock (t + Config.partialGap)
  | .collect _ t => reached s.clock (t + Config.partialGap)

/-- The partial frame is discarded for its gap, counted, and what followed its SYNC rescanned (R152, R153). -/
def State.discardPartial (s : State) (l : Link) : State :=
  let got := (partialBytes (s.link l).receiver).drop 1
  scanBytes true l 0 got ((s.hunt l).countError l .partialTimeouts)

/-- A byte joins the partial frame, or is taken in HUNT (R152). -/
def State.receiveByte (s : State) (l : Link) (b : Byte) : State :=
  scanBytes false l 0 (partialBytes (s.link l).receiver ++ [b]) (s.hunt l)

/-- LINE_BYTE_ARRIVAL (R152 to R155). A partial frame whose gap has run out is discarded before the byte is taken (log 13). While RSTn is low
the part takes nothing (R136). -/
def execLineByteArrival (link : Link) (byte : Byte) (s : State) : Result :=
  if s.rstn then
    let t := s.settle
    .next ((if t.gapDue link then t.discardPartial link else t).receiveByte link byte)
  else .next s

/-- The gap of a link's partial frame runs out, if it is due (R152). -/
def State.lapsePartial (s : State) (l : Link) : State := if s.settle.gapDue l then s.settle.discardPartial l else s

/-- PARTIAL_TIMEOUT (R152, R153). -/
def execPartialTimeout (link : Link) (s : State) : Result := .next (s.lapsePartial link)

/-- RESYNC (R161): a whole valid frame of kind 0x7F arrives on the link (log 6). The lease is renewed first (R154); the receiver is in HUNT. -/
def execResync (link : Link) (s : State) : Result :=
  if s.rstn then .next (((s.settle.renewLease link).hunt link).takeResync link) else .next s

/-! ## The transmitter (R159) -/

/-- Begins sending a frame. -/
def State.send (s : State) (l : Link) (frame : List Byte) : State :=
  s.updLink l fun u => { u with transmitter := .sending frame }

/-- The lowest of some cells. -/
def lowest : List CellIx → Option CellIx
  | [] => none
  | c :: cs => match lowest cs with
    | none => some c
    | some d => some (if c ≤ d then c else d)

/-- A CHANGED report is sent (R18, R70): the cell is read now, a check failure found is a detection, and the record is no longer pending. -/
def State.sendChanged (s : State) (l : Link) (c : CellIx) : State :=
  let count := ((s.watchOf l c).bind Watch.pending).getD 0
  let s := (s.accessCell c).2
  let x := s.cell c
  let body := le 2 (cellSubject c) ++ le 8 (if x.poisoned then 0 else x.value) ++ le 4 x.version ++ [countByte count, flagByte x.poisoned]
  let s := { s with watches := s.watches.map fun w : Watch => if w.link = l ∧ w.cell = c then { w with pending := none } else w }
  s.send l (reportFrame 0xC0 body)

/-- An ARRIVAL report is sent (R96); the entry leaves the set. -/
def State.sendArrival (s : State) (l : Link) (q : QueueIx) : State :=
  let d := s.queue q
  let messages := (d.map Queue.messages).getD []
  let body := [queueByte (some q)] ++ le 2 ((d.map Queue.label).getD 0) ++ [countByte messages.length, countByte (urgentCount messages)]
  (s.withdrawArrival l q).send l (reportFrame 0xC1 body)

/-- A ROLE report is sent (R142). -/
def State.sendRole (s : State) (l : Link) : State :=
  (s.updReports l fun r => { r with role := false }).send l
    (reportFrame 0xC2 [flagByte (decide (s.admin = some l)), linkByte s.admin])

/-- A SESSION_ENDED report is sent (R118). -/
def State.sendSessionEnded (s : State) (l : Link) (e : SessionEnded) : State :=
  (s.updReports l fun r => { r with sessionEnded := none }).send l
    (reportFrame 0xC3 ([reasonByte e.reason] ++ le 2 e.hostId ++ [countByte e.discarded]))

/-- An INTEGRITY report is sent (R146): the latest detected cell and the unreported detections, which go to 0. -/
def State.sendIntegrity (s : State) (l : Link) : State :=
  let cell : Half := match s.latestCell with | some c => cellSubject c | none => 0xFFFF
  let t := { s.withdrawIntegrity l with unreported := 0 }
  t.send l (reportFrame 0xC4 (le 2 cell ++ [countByte s.unreported]))

/-- The link entry is sent as LINK_NOTICE or RESYNC_DONE with the six counts, which go to 0 (R160). -/
def State.sendLinkEntry (s : State) (l : Link) (e : LinkEntry) : State :=
  let body := counterFields (s.link l).counters
  (s.updLink l fun u => { u with counters := {}, reports := { u.reports with linkEntry := none } }).send l
    (reportFrame (match e with | .notice => 0xC5 | .resyncDone => 0xC6) body)

/-- Chooses a report by key (R159, order 2); nothing when none is pending. -/
def State.chooseReport (s : State) (l : Link) : State :=
  let r := (s.link l).reports
  match r.sessionEnded with
  | some e => s.sendSessionEnded l e
  | none =>
    if r.role then s.sendRole l
    else if r.integrity then s.sendIntegrity l
    else
      match r.linkEntry with
      | some e => s.sendLinkEntry l e
      | none =>
        match lowest (s.changedCells l) with
        | some c => s.sendChanged l c
        | none =>
          match r.arrivals with
          | q :: _ => s.sendArrival l q
          | [] => s

/-- An IDLE transmitter chooses: the oldest reply, or else a report (R159). -/
def State.choose (s : State) (l : Link) : State :=
  match (s.link l).replies with
  | r :: rest => (s.updLink l fun u => { u with replies := rest }).send l (replyFrame r)
  | [] => s.chooseReport l

/-- The choice of a transmitter is a CHANGED report: no reply waits and no entry of a higher key is pending (R159). -/
def State.changedIsNext (s : State) (l : Link) : Bool :=
  let r := (s.link l).reports
  (s.link l).replies.isEmpty && r.sessionEnded.isNone && !r.role && !r.integrity && r.linkEntry.isNone && !(s.changedCells l).isEmpty

/-- TRANSMITTER_CHOICE (R159); a transmitter that is SENDING does not choose. The hub clock may count while an IDLE one has something waiting (log 25). The choice can fall inside the operation in progress of another block, but the
read for a CHANGED report falls inside no cell-store operation (R70), so the operation is then completed first. -/
def execTransmitterChoice (link : Link) (s : State) : Result :=
  match (s.link link).transmitter with
  | .idle => .next ((if s.inProgress && !s.changedIsNext link then s else s.settle).choose link)
  | .sending _ => .next s

/-- FRAME_SENT (R159): the last byte has gone and the transmitter is IDLE; the completion of the HUB_RESET reply on the admin link that asked for the
reset begins it (R147, R148). -/
def execFrameSent (link : Link) (s : State) : Result :=
  match (s.link link).transmitter with
  | .idle => .next s
  | .sending frame =>
    let t := s.updLink link fun u => { u with transmitter := .idle }
    match t.resetRequest with
    | some r => if r.link = link ∧ isResetReply frame = true then .next (t.beginReset r.scope) else .next t
    | none => .next t

end Sys2Proof.Machine
end

