-- ==== Sys2Proof/Machine/Pins.lean ====
section
/-! DEFINITION. POWER_ON, RESET_COMPLETE, RSTN_ASSERTED (R136) and STORAGE_UPSET (R14). -/

namespace Sys2Proof.Machine

/-- POWER_ON (R136): RSTn rises, the rate straps are sampled, every block is at its power-on state and the scrub runs. The commands that wait and
the model's counter of free values are not the part's and stay. -/
def execPowerOn (rate : LineRate) (s : State) : Result :=
  .next { State.reset with lineRate := rate, pending := s.pending, freeSeed := s.freeSeed }

/-- RSTN_ASSERTED (R136): RSTn falls; all activity stops and the part is held at its power-on state while the pin is low. -/
def execRstnAsserted (s : State) : Result :=
  .next { State.reset with rstn := false, lineRate := s.lineRate, pending := s.pending, freeSeed := s.freeSeed }

/-- RESET_COMPLETE (R136): the cell store reports that its reset is complete, and the hub becomes READY, the role vacant. It comes only while the
hub is RESETTING with RSTn high. -/
def execResetComplete (s : State) : Result :=
  if s.rstn = true ∧ s.hubState = .resetting then .next { s with hubState := .ready, scrubbing := false } else .next s

/-- The latent check failure of a storage upset; nothing changes for a cell already poisoned or already failing (R14). -/
def Cell.upset (x : Cell) : Cell := if x.poisoned then x else { x with checkFails := true }

/-- STORAGE_UPSET (R14). During a scrub, an upset that strikes before the scrub has written the cell is overwritten by it; which comes first the
manual does not say, so it is a free value (log 5). -/
def execStorageUpset (cell : CellIx) (s : State) : Result :=
  if s.rstn then
    if s.scrubbing then
      let t := { s with freeSeed := s.freeSeed + 1 }
      if Config.scrubHasPassed s.freeSeed cell then .next (t.setCell cell (t.cell cell).upset) else .next t
    else .next (s.setCell cell (s.cell cell).upset)
  else .next s

end Sys2Proof.Machine
end

