-- ==== Sys2Proof/Machine/Policies.lean ====
section
/-! DEFINITION. The fault unit's requests: SET_POLICY (R129), CLEAR_FAULTS (R130), SET_FORWARD (R131). -/

namespace Sys2Proof.Machine

def State.takeSetPolicy (s : State) (l : Link) (tag : Tag) (cls : FaultClass) (policy : FaultPolicy) : State :=
  if cls = .form ∧ policy ≠ .refuse then
    s.refuseForm l tag (replyKind 0x30) ⟨.fixedPolicy, 0, (policyByte policy).setWidth 32⟩
  else
    let r := s.faultRecord l
    (s.setFaultRecord l { r with policies := setAt r.policies (classIndex cls) policy }).answer l tag 0x30 .ok
      [policyByte (s.policy l cls)]

/-- SET_POLICY (R128, R129). -/
def execSetPolicy (link : Link) (tag : Tag) (cls : FaultClass) (policy : FaultPolicy) (s : State) : Result :=
  s.commandAtArrival link tag (.setPolicy cls policy) fun t => t.takeSetPolicy link tag cls policy

def State.takeClearFaults (s : State) (l : Link) (tag : Tag) : State :=
  let r := s.faultRecord l
  (s.setFaultRecord l { r with occurred := Vector.replicate 6 false, lost := false }).answer l tag 0x31 .ok
    [occurredByte r.occurred, flagByte r.lost]

/-- CLEAR_FAULTS (R130). -/
def execClearFaults (link : Link) (tag : Tag) (s : State) : Result :=
  s.commandAtArrival link tag .clearFaults fun t => t.takeClearFaults link tag

/-- Sets the designation and answers with the previous one (R131). -/
def State.designate (s : State) (l : Link) (tag : Tag) (d : Option QueueIx) : State :=
  let r := s.faultRecord l
  (s.setFaultRecord l { r with designation := d }).answer l tag 0x32 .ok [queueByte r.designation]

def State.takeSetForward (s : State) (l : Link) (tag : Tag) (queue : Byte) : State :=
  let o : Faulting := ⟨l, tag, 0x32, [0xFF]⟩
  if queue = 0xFF then s.designate l tag none
  else
    match queueOf queue with
    | none => s.raise o ⟨.queueIndex, queue.setWidth 16, 0⟩ none
    | some q =>
      match s.queue q with
      | none => s.raise o ⟨.queueAbsent, queue.setWidth 16, (queueStateByte none).setWidth 32⟩ none
      | some _ => s.designate l tag (some q)

/-- SET_FORWARD (R131). -/
def execSetForward (link : Link) (tag : Tag) (queue : Byte) (s : State) : Result :=
  s.commandAtArrival link tag (.setForward queue) fun t => t.takeSetForward link tag queue

end Sys2Proof.Machine
end

