-- ==== Sys2Proof/Machine/Queues.lean ====
section
/-! DEFINITION. The queue commands: CREATE_QUEUE (R81), DESTROY_QUEUE (R82), BIND (R83), UNBIND (R84), POST (R85, R86), TAKE (R88, R90), PEEK (R89), QUERY_QUEUE (R97),
FORWARD_POST (R87), WAITING_TAKE_EXPIRY (R91). -/

namespace Sys2Proof.Machine

/-- A queue index as a fault's subject. -/
def queueSubject (q : Byte) : Half := q.setWidth 16

/-- The RANGE fault of a queue index (R121). -/
def queueRangeFault (q : Byte) : HubFault := ⟨.queueIndex, queueSubject q, 0⟩

/-- The STATE fault of an ABSENT queue: the detail is the queue's state (R121). -/
def queueAbsentFault (q : Byte) : HubFault := ⟨.queueAbsent, queueSubject q, (queueStateByte none).setWidth 32⟩

/-- An admin-only queue request from a session that is not admin (R121). -/
def queueAdminFault (q : Byte) : HubFault := ⟨.notAdmin, queueSubject q, 0⟩

/-- A session that does not own the queue: the detail is the owner link, 0xFF when not BOUND (R121). -/
def notOwnerFault (q : Byte) (d : Queue) : HubFault := ⟨.notOwner, queueSubject q, (linkByte d.owner).setWidth 32⟩

/-! ## Creating and destroying -/

def State.takeCreate (s : State) (l : Link) (tag : Tag) (queue : Byte) (label : Half) (capacity : Byte) (overflow : Overflow)
    (mask : Byte) (intended : Half) (notify : Bool) : State :=
  let o : Faulting := ⟨l, tag, 0x20, le 2 (0 : Half)⟩
  match queueOf queue with
  | none => s.raiseInQueue o (queueRangeFault queue)
  | some q =>
    if capacity = 0 ∨ Config.capacityMax < capacity.toNat then
      s.raiseInQueue o ⟨.queueCapacity, queueSubject queue, capacity.setWidth 32⟩
    else if s.admin ≠ some l then s.raiseInQueue o (queueAdminFault queue)
    else
      match s.queue q with
      | some d => s.raiseInQueue o ⟨.queueExists, queueSubject queue, (queueStateByte (some d)).setWidth 32⟩
      | none =>
        let t := s.setQueue q
          { label := label, capacity := capacity.toNat, overflow := overflow, mask := mask
            intended := if intended = 0 then none else some intended, notify := notify }
        t.answer l tag 0x20 .ok (le 2 (BitVec.ofNat 16 t.slotsFree))

/-- CREATE_QUEUE (R81). -/
def execCreateQueue (link : Link) (tag : Tag) (queue : Byte) (label : Half) (capacity : Byte) (overflow : Overflow) (mask : Byte)
    (intended : Half) (notify : Bool) (s : State) : Result :=
  s.commandQueue link tag (.createQueue queue label capacity overflow mask intended notify) fun t =>
    t.takeCreate link tag queue label capacity overflow mask intended notify

/-- FLT clears the designation of every session that names a destroyed queue (R82, R132). -/
def clearDesignation (q : QueueIx) (_ : Link) (r : FaultRecord) : FaultRecord :=
  if r.designation = some q then { r with designation := none } else r

/-- The reply that ends a waiting take without a message: GONE, CANCELLED or EMPTY (R91). -/
def State.endWaitingTake (s : State) (d : Queue) (status : Status) (fields : List Byte) : State :=
  match d.waitingTake with
  | some w => s.answer w.link w.tag 0x25 status fields
  | none => s

/-- An ARRIVAL keyed by the queue is withdrawn from the owner's set (R95). -/
def State.withdrawOwned (s : State) (q : QueueIx) (d : Queue) : State :=
  match d.owner with
  | some k => s.withdrawArrival k q
  | none => s

/-- The effects of a DESTROY_QUEUE that passes, in their order (R82). -/
def State.destroyQueue (s : State) (q : QueueIx) (d : Queue) : State :=
  let s := s.endWaitingTake d .gone []
  let s := s.withdrawOwned q d
  { s.removeQueue q with faults := mapLinks (clearDesignation q) s.faults }

def State.takeDestroy (s : State) (l : Link) (tag : Tag) (queue : Byte) : State :=
  let o : Faulting := ⟨l, tag, 0x21, [countByte 0]⟩
  match queueOf queue with
  | none => s.raiseInQueue o (queueRangeFault queue)
  | some q =>
    if s.admin ≠ some l then s.raiseInQueue o (queueAdminFault queue)
    else
      match s.queue q with
      | none => s.raiseInQueue o (queueAbsentFault queue)
      | some d => (s.destroyQueue q d).answer l tag 0x21 .ok [countByte d.messages.length]

/-- DESTROY_QUEUE (R82). -/
def execDestroyQueue (link : Link) (tag : Tag) (queue : Byte) (s : State) : Result :=
  s.commandQueue link tag (.destroyQueue queue) fun t => t.takeDestroy link tag queue

/-! ## Binding -/

/-- The queue has no intended owner, or it is the session's host identity (R83, order 4). -/
def State.mayBind (s : State) (l : Link) (d : Queue) : Bool :=
  match d.intended with
  | none => true
  | some h => decide ((s.session l).map Session.hostId = some h)

def State.takeBind (s : State) (l : Link) (tag : Tag) (queue : Byte) : State :=
  let o : Faulting := ⟨l, tag, 0x22, [countByte 0, countByte 0]⟩
  match queueOf queue with
  | none => s.raiseInQueue o (queueRangeFault queue)
  | some q =>
    match s.queue q with
    | none => s.raiseInQueue o (queueAbsentFault queue)
    | some d =>
      match d.owner with
      | some k => s.raiseInQueue o ⟨.queueBound, queueSubject queue, (linkByte (some k)).setWidth 32⟩
      | none =>
        if s.mayBind l d then
          let t := s.setQueue q { d with owner := some l }
          let t := if d.notify && !d.messages.isEmpty then t.pendArrival l q else t
          t.answer l tag 0x22 .ok [countByte d.messages.length, countByte (urgentCount d.messages)]
        else s.raiseInQueue o ⟨.intendedOwner, queueSubject queue, (d.intended.getD 0).setWidth 32⟩

/-- BIND (R83). -/
def execBind (link : Link) (tag : Tag) (queue : Byte) (s : State) : Result :=
  s.commandQueue link tag (.bind queue) fun t => t.takeBind link tag queue

/-- The checks that UNBIND, TAKE and PEEK share: index, not ABSENT, owner (R84, R88, R89). -/
def State.ownedQueue (s : State) (l : Link) (queue : Byte) : Except HubFault (QueueIx × Queue) :=
  match queueOf queue with
  | none => .error (queueRangeFault queue)
  | some q =>
    match s.queue q with
    | none => .error (queueAbsentFault queue)
    | some d => if d.owner = some l then .ok (q, d) else .error (notOwnerFault queue d)

def State.takeUnbind (s : State) (l : Link) (tag : Tag) (queue : Byte) : State :=
  match s.ownedQueue l queue with
  | .error f => s.raiseInQueue ⟨l, tag, 0x23, [countByte 0]⟩ f
  | .ok (q, d) =>
    let t := (s.endWaitingTake d .cancelled []).withdrawOwned q d
    (t.setQueue q { d with owner := none, waitingTake := none }).answer l tag 0x23 .ok [countByte d.messages.length]

/-- UNBIND (R84). -/
def execUnbind (link : Link) (tag : Tag) (queue : Byte) (s : State) : Result :=
  s.commandQueue link tag (.unbind queue) fun t => t.takeUnbind link tag queue

/-! ## Posting -/

/-- The messages a queue holds, as the default POST result reports them; a free value when the index names no queue (R85, log 9). -/
def State.heldByte (s : State) (queue : Byte) : Byte :=
  match queueOf queue with
  | none => Config.heldOfNoQueue queue
  | some q => countByte (((s.queue q).map fun d => d.messages.length).getD 0)

/-- The session's link is in the post mask (R75, R166). -/
def maskAdmits (mask : Byte) (l : Link) : Bool := mask.getLsbD l.val

/-- The messages held after a post, from the queue as it then stands. -/
def State.heldAfter (s : State) (q : QueueIx) : Byte := countByte (((s.queue q).map fun d => d.messages.length).getD 0)

def State.takePost (s : State) (l : Link) (tag : Tag) (queue : Byte) (urgent : Bool) (payload : List Byte) : State :=
  let o : Faulting := ⟨l, tag, 0x24, [s.heldByte queue, marksByte false false]⟩
  match queueOf queue with
  | none => s.raiseInQueue o (queueRangeFault queue)
  | some q =>
    match s.queue q with
    | none => s.raiseInQueue o (queueAbsentFault queue)
    | some d =>
      if maskAdmits d.mask l = false then s.raiseInQueue o ⟨.postMask, queueSubject queue, d.mask.setWidth 32⟩
      else
        match s.placeMessage q d ⟨countByte l.val, s.hostId l, s.clock, urgent, payload⟩ with
        | (.handed, t) => t.answer l tag 0x24 .ok [t.heldAfter q, marksByte true false]
        | (.stored dropped, t) => t.answer l tag 0x24 .ok [t.heldAfter q, marksByte false dropped]
        | (.queueFull capacity, t) => t.raiseInQueue o ⟨.queueFull, queueSubject queue, BitVec.ofNat 32 capacity⟩
        | (.poolEmpty, t) => t.raiseInQueue o ⟨.poolEmpty, queueSubject queue, 0⟩

/-- POST (R85, R86). -/
def execPost (link : Link) (tag : Tag) (queue : Byte) (urgent : Bool) (payload : List Byte) (s : State) : Result :=
  s.commandQueue link tag (.post queue urgent payload) fun t => t.takePost link tag queue urgent payload

/-- FORWARD_POST (R80, R87): the queue arbiter takes the oldest pending forward post; it takes nothing while a reset request stands (R147). -/
def execForwardPost (s : State) : Result :=
  if s.resetStands then .next s else .next s.takeForwardPost

/-! ## Taking and peeking -/

/-- The TAKE removes the head; the last message gone, a pending ARRIVAL is withdrawn (R88, R95). -/
def State.removeHead (s : State) (l : Link) (q : QueueIx) (d : Queue) : State :=
  let rest := dropHead d.messages
  let t := s.setQueue q { d with messages := rest }
  if rest.isEmpty then t.withdrawArrival l q else t

def State.takeTake (s : State) (l : Link) (tag : Tag) (queue : Byte) (wait : Half) : State :=
  let o : Faulting := ⟨l, tag, 0x25, [countByte 0]⟩
  match s.ownedQueue l queue with
  | .error f => s.raiseInQueue o f
  | .ok (q, d) =>
    match headMessage d.messages with
    | some m =>
      (s.removeHead l q d).answer l tag 0x25 .ok (countByte (dropHead d.messages).length :: messageFields m)
    | none =>
      if wait = 0 then s.answer l tag 0x25 .empty [countByte 0]
      else
        match d.waitingTake with
        | none => s.setQueue q { d with waitingTake := some ⟨l, tag, later s.clock wait.toNat⟩ }
        | some w => s.raiseInQueue o ⟨.takeWaiting, queueSubject queue, w.tag.setWidth 32⟩

/-- TAKE (R88, R90). -/
def execTake (link : Link) (tag : Tag) (queue : Byte) (wait : Half) (s : State) : Result :=
  s.commandQueue link tag (.take queue wait) fun t => t.takeTake link tag queue wait

/-- PEEK's default result: every field of its message 0, the payload empty, the count 0 (R89, R169). -/
def peekDefault : List Byte := countByte 0 :: messageFields ⟨0, 0, 0, false, []⟩

def State.takePeek (s : State) (l : Link) (tag : Tag) (queue : Byte) : State :=
  match s.ownedQueue l queue with
  | .error f => s.raiseInQueue ⟨l, tag, 0x26, peekDefault⟩ f
  | .ok (_, d) =>
    match headMessage d.messages with
    | some m => s.answer l tag 0x26 .ok (countByte d.messages.length :: messageFields m)
    | none => s.answer l tag 0x26 .empty [countByte 0]

/-- PEEK (R89). -/
def execPeek (link : Link) (tag : Tag) (queue : Byte) (s : State) : Result :=
  s.commandQueue link tag (.peek queue) fun t => t.takePeek link tag queue

/-- The fields of the QUERY_QUEUE reply (R97, R171). -/
def State.queueFields (s : State) (d : Option Queue) : List Byte :=
  (match d with
    | none => [queueStateByte none] ++ le 2 (0 : Half) ++ [0, 0, 0] ++ le 2 (0 : Half) ++ [0, linkByte none, 0, 0, 0] ++ le 2 (0 : Half)
    | some d =>
      [queueStateByte (some d)] ++ le 2 d.label ++ [countByte d.capacity, overflowByte d.overflow, d.mask] ++ le 2 (d.intended.getD 0) ++
        [flagByte d.notify, linkByte d.owner, countByte d.messages.length, countByte (urgentCount d.messages),
          flagByte d.waitingTake.isSome] ++ le 2 (BitVec.ofNat 16 d.drops)) ++
    le 2 (BitVec.ofNat 16 s.slotsFree)

def State.takeQueryQueue (s : State) (l : Link) (tag : Tag) (queue : Byte) : State :=
  match queueOf queue with
  | none => s.raiseInQueue ⟨l, tag, 0x27, List.replicate 17 0⟩ (queueRangeFault queue)
  | some q => s.answer l tag 0x27 .ok (s.queueFields (s.queue q))

/-- QUERY_QUEUE (R97). -/
def execQueryQueue (link : Link) (tag : Tag) (queue : Byte) (s : State) : Result :=
  s.commandQueue link tag (.queryQueue queue) fun t => t.takeQueryQueue link tag queue

/-- The queue whose waiting take's deadline is reached. -/
def State.dueTake (s : State) (q : QueueIx) : Option Queue :=
  match s.queue q with
  | none => none
  | some d =>
    match d.waitingTake with
    | some w => if reached s.clock w.deadline then some d else none
    | none => none

/-- A queue's waiting take expires, if it is due: EMPTY with remaining 0; not while a reset request stands (R147). It falls inside no queue operation, but it
can fall inside the operation in progress of another block (R79). -/
def State.lapseTake (s : State) (q : QueueIx) : State :=
  let t := if s.inProgress then s else s.settle
  if t.resetStands then s
  else
    match t.dueTake q with
    | some d => (t.endWaitingTake d .empty [countByte 0]).setQueue q { d with waitingTake := none }
    | none => s

/-- WAITING_TAKE_EXPIRY (R91). -/
def execWaitingTakeExpiry (queue : QueueIx) (s : State) : Result := .next (s.lapseTake queue)

end Sys2Proof.Machine
end

