-- ==== Sys2Proof/Machine/Reservations.lean ====
section
/-! DEFINITION. RESERVE (R22 to R25, R43), COMMIT (R26 to R30), RELEASE (R32), DRAIN (R54) and HOLD_EXPIRY (R34, R49). -/

namespace Sys2Proof.Machine

/-- RESERVE's default result: the failure count as it stands, all else 0 (R125). -/
def State.reserveDefault (s : State) (l : Link) : List Byte :=
  le 8 (0 : Quad) ++ le 4 (0 : Word) ++ [marksByte false false, countByte (s.entry l).failures]

/-- The conditions on which a RESERVE earns a hold (R24). -/
def State.earnsHold (s : State) (l : Link) (c : CellIx) : Bool :=
  decide (s.config.threshold ≠ 0) && decide (s.config.threshold ≤ (s.entry l).failures) && !s.heldByOther l c

/-- A RESERVE that passes its checks: the old entry goes, ending its hold, the new one is armed, and the hold is decided (R23, R24). -/
def State.arm (s : State) (l : Link) (tag : Tag) (c : CellIx) : State :=
  let x := s.cell c
  let s := s.consumeEntry l
  let s := s.setEntry l { s.entry l with reservation := .armed c x.version }
  let elsewhere := s.heldByOther l c
  let granted := s.earnsHold l c
  let s := if granted then (s.setEntry l ⟨.held c x.version, 0⟩).grantHold l c else s
  s.answer l tag 0x18 .ok (le 8 x.value ++ le 4 x.version ++ [marksByte granted elsewhere, countByte (s.entry l).failures])

def State.takeReserve (s : State) (l : Link) (tag : Tag) (cell : Half) : State :=
  let o : Faulting := ⟨l, tag, 0x18, s.reserveDefault l⟩
  match cellOf cell with
  | none => s.raise o (cellRangeFault cell) none
  | some c =>
    if s.hasWriteAccess l c = false then s.raise o (s.accessFault c) none
    else
      match s.accessCell c with
      | (some code, t) => t.raise o (t.integrityFault c code) none
      | (none, t) => t.arm l tag c

/-- RESERVE (R22 to R25). -/
def execReserve (link : Link) (tag : Tag) (cell : Half) (s : State) : Result :=
  s.commandCell link tag (.reserve cell) fun t => t.takeReserve link tag cell

def State.takeCommit (s : State) (l : Link) (tag : Tag) (cell : Half) (v : Quad) : State :=
  let o : Faulting := ⟨l, tag, 0x19, commitDefault false⟩
  match cellOf cell with
  | none => s.raise o (cellRangeFault cell) none
  | some c =>
    if s.hasWriteAccess l c = false then s.raise o (s.accessFault c) none
    else if s.heldByOther l c then s.turnAside o ⟨l, tag, .commit, c, v⟩
    else s.judgeCommit l tag c v false none

/-- COMMIT (R26 to R30). -/
def execCommit (link : Link) (tag : Tag) (cell : Half) (value : Quad) (s : State) : Result :=
  s.commandCell link tag (.commit cell value) fun t => t.takeCommit link tag cell value

def State.takeRelease (s : State) (l : Link) (tag : Tag) : State :=
  let e := s.entry l
  (s.consumeEntry l).answer l tag 0x1A .ok
    ([reservationByte e.reservation] ++ le 2 (reservationCell e.reservation) ++ [countByte e.failures])

/-- RELEASE (R21, R32). -/
def execRelease (link : Link) (tag : Tag) (s : State) : Result :=
  s.commandInOrder link tag .release fun t => t.takeRelease link tag

/-- DRAIN (R4, R54): the drain in progress goes on, its forward post taken (R80), or else the oldest pending drain is taken; none while a reset request
stands (R147). -/
def execDrain (s : State) : Result :=
  if s.resetStands then .next s
  else if s.forwardPosts.isEmpty && s.draining.isSome then .next s.resumeDrain
  else if s.settle.drains.isEmpty then .next s
  else .next s.settle.takeDrain

/-- The STANDING record of a cell whose deadline is reached (R49). -/
def State.dueHold (s : State) (c : CellIx) : Option HoldRecord :=
  s.holds.find? fun h => decide (h.cell = c) &&
    match h.phase with
    | .standing d => reached s.clock d
    | .ended => false

/-- The expiry of a hold (R34, R49): the record ends, the holder's entry goes from HELD to ARMED, the expiry is counted. -/
def State.expireHold (s : State) (h : HoldRecord) : State :=
  let s := s.endHold h.holder h.cell
  let e := s.entry h.holder
  let s :=
    match e.reservation with
    | .held c v => if c = h.cell then s.setEntry h.holder { e with reservation := .armed c v } else s
    | _ => s
  { s with counters := { s.counters with holdsExpired := s.counters.holdsExpired + 1 } }

/-- The hold on a cell expires, if it is due; not while a reset request stands (R49). -/
def State.lapseHold (s : State) (c : CellIx) : State :=
  let t := s.settle
  if t.resetStands then s
  else
    match t.dueHold c with
    | some h => t.expireHold h
    | none => s

/-- HOLD_EXPIRY of the hold on a cell (R34, R49). -/
def execHoldExpiry (cell : CellIx) (s : State) : Result := .next (s.lapseHold cell)

end Sys2Proof.Machine
end

