-- ==== Sys2Proof/Machine/Sessions.lean ====
section
/-! DEFINITION. Session commands: OPEN (R106, R107), CLOSE (R109), PING (R111), QUERY_SESSION (R112), LEASE_EXPIRY (R114, R116), CLEAN_TEARDOWN (R117). -/

namespace Sys2Proof.Machine

/-- A link number as a fault's subject. -/
def linkSubject (l : Link) : Half := BitVec.ofNat 16 l.val

/-- The link of another session that has a host identity (R106, order 5). -/
def State.identityHolder (s : State) (l : Link) (host : Half) : Option Link :=
  allLinks.find? fun k => decide (k ≠ l) &&
    match s.session k with
    | some x => decide (x.hostId = host)
    | none => false

/-- An accepted OPEN (R107, R139). -/
def State.acceptOpen (s : State) (l : Link) (tag : Tag) (hostId : Half) (eligible : Bool) (period : Byte) : State :=
  let s := s.setSession l (some ⟨.attached, hostId, eligible, period, leaseDeadline s.clock period⟩)
  let s := (s.setEntry l {}).setFaultRecord l {}
  let s := if eligible = true ∧ s.admin = none then s.changeAdmin (some l) else s
  s.answer l tag 0x01 .ok [countByte l.val, flagByte (decide (s.admin = some l)), period]

/-- The checks of OPEN, in their order (R106). The faults of a DETACHED link are answered as under REFUSE, with no flag set (R128). -/
def State.takeOpen (s : State) (l : Link) (tag : Tag) (hostId : Half) (eligible : Bool) (period : Half) : State :=
  if s.attached l then
    s.raise ⟨l, tag, 0x01, [0, 0, 0]⟩ ⟨.sessionOpen, linkSubject l, (s.hostId l).setWidth 32⟩ none
  else if s.hubState = .resetting then s.answer l tag 0x01 .resetting []
  else if hostId = 0 then s.answerFault ⟨l, tag, 0x01, []⟩ ⟨.hostId, linkSubject l, 0⟩
  else if 255 < period.toNat then s.answerFault ⟨l, tag, 0x01, []⟩ ⟨.leasePeriod, linkSubject l, period.setWidth 32⟩
  else
    match s.identityHolder l hostId with
    | some k => s.answer l tag 0x01 .idInUse [countByte k.val]
    | none => s.acceptOpen l tag hostId eligible (period.setWidth 8)

/-- OPEN (R106). -/
def execOpen (link : Link) (tag : Tag) (hostId : Half) (eligible : Bool) (period : Half) (s : State) : Result :=
  s.commandAtArrival link tag (.openSession hostId eligible period) fun t => t.takeOpen link tag hostId eligible period

/-- The session becomes CLOSING and its role leaves it; the CLOSE stays in flight (R109). -/
def State.takeClose (s : State) (l : Link) : State :=
  match s.session l with
  | none => s
  | some x => (s.setSession l (some { x with phase := .closing })).vacateAdmin l

/-- CLOSE (R109). -/
def execClose (link : Link) (tag : Tag) (s : State) : Result :=
  s.commandAtArrival link tag .closeSession fun t => t.takeClose link

/-- The PING reply: the hub clock, the in-flight count with the PING, the echo (R111). -/
def State.takePing (s : State) (l : Link) (tag : Tag) (echo : List Byte) : State :=
  s.answer l tag 0x03 .ok (le 4 s.clock ++ [countByte (s.inFlight l)] ++ echo)

/-- PING (R111). -/
def execPing (link : Link) (tag : Tag) (echo : List Byte) (s : State) : Result :=
  s.commandAtArrival link tag (.ping echo) fun t => t.takePing link tag echo

/-- The fields of the QUERY_SESSION reply (R112, R171). Milliseconds left is the lease period times 100, as R112 states. -/
def State.sessionFields (s : State) (l : Link) (x : Session) : List Byte :=
  let e := s.entry l
  let r := s.faultRecord l
  [countByte l.val] ++ le 2 x.hostId ++ [flagByte x.eligible, x.period] ++
    le 2 (BitVec.ofNat 16 (x.period.toNat * Config.leaseUnit)) ++
    [countByte (s.inFlight l), flagByte (decide (s.admin = some l)), reservationByte e.reservation] ++
    le 2 (reservationCell e.reservation) ++ le 4 (reservationVersion e.reservation) ++ [countByte e.failures] ++
    r.policies.toList.map policyByte ++ [occurredByte r.occurred, flagByte r.lost, queueByte r.designation]

def State.takeQuerySession (s : State) (l : Link) (tag : Tag) : State :=
  match s.session l with
  | none => s
  | some x => s.answer l tag 0x04 .ok (s.sessionFields l x)

/-- QUERY_SESSION (R112). -/
def execQuerySession (link : Link) (tag : Tag) (s : State) : Result :=
  s.commandAtArrival link tag .querySession fun t => t.takeQuerySession link tag

/-- The lease of the session on a link has run out (R114). -/
def State.leaseDue (s : State) (l : Link) : Bool :=
  match (s.session l).bind Session.deadline with
  | some d => reached s.clock d
  | none => false

/-- The lease of the session on a link expires, if it is due; not while a reset request stands (R147). -/
def State.lapseLease (s : State) (l : Link) : State :=
  let t := s.settle
  if t.resetStands = false ∧ t.leaseDue l = true then t.leaseTeardown l else s

/-- LEASE_EXPIRY (R114, R116). -/
def execLeaseExpiry (link : Link) (s : State) : Result := .next (s.lapseLease link)

/-- CLEAN_TEARDOWN (R110, R117), taken when it is due and no reset request stands (R147). -/
def execCleanTeardown (link : Link) (s : State) : Result :=
  if s.resetStands then .next s
  else
    let t := s.finishOperation
    match t.closeDue link with
    | some tag => .next (t.cleanTeardown link tag)
    | none => .next s

end Sys2Proof.Machine
end

