-- ==== Sys2Proof/Machine/Watches.lean ====
section
/-! DEFINITION. WATCH (R65, R66) and UNWATCH (R67). -/

namespace Sys2Proof.Machine

def State.takeWatch (s : State) (l : Link) (tag : Tag) (cell : Half) : State :=
  let n := s.watchCount l
  let o : Faulting := ⟨l, tag, 0x1C, le 8 (0 : Quad) ++ le 4 (0 : Word) ++ [countByte n]⟩
  match cellOf cell with
  | none => s.raise o (cellRangeFault cell) none
  | some c =>
    if (s.watchOf l c).isSome then s.raise o ⟨.watchExists, cellSubject c, BitVec.ofNat 32 n⟩ none
    else if Config.watchLimit ≤ n then s.raise o ⟨.watchLimit, cellSubject c, BitVec.ofNat 32 Config.watchLimit⟩ none
    else
      match s.accessCell c with
      | (some code, t) => t.raise o (t.integrityFault c code) none
      | (none, t) =>
        State.answer { t with watches := t.watches ++ [⟨l, c, none⟩] } l tag 0x1C .ok
          (le 8 (t.cell c).value ++ le 4 (t.cell c).version ++ [countByte (n + 1)])

/-- WATCH (R65, R66). -/
def execWatch (link : Link) (tag : Tag) (cell : Half) (s : State) : Result :=
  s.commandCell link tag (.watch cell) fun t => t.takeWatch link tag cell

def State.takeUnwatch (s : State) (l : Link) (tag : Tag) (cell : Half) : State :=
  let n := s.watchCount l
  let o : Faulting := ⟨l, tag, 0x1D, [countByte 0, countByte n]⟩
  match cellOf cell with
  | none => s.raise o (cellRangeFault cell) none
  | some c =>
    match s.watchOf l c with
    | none => s.raise o ⟨.watchMissing, cellSubject c, BitVec.ofNat 32 n⟩ none
    | some w =>
      State.answer { s with watches := s.watches.filter fun w => !(decide (w.link = l) && decide (w.cell = c)) } l tag 0x1D .ok
        [countByte (w.pending.getD 0), countByte (n - 1)]

/-- UNWATCH (R64, R67). A pending CHANGED goes with its record (R62). -/
def execUnwatch (link : Link) (tag : Tag) (cell : Half) (s : State) : Result :=
  s.commandInOrder link tag (.unwatch cell) fun t => t.takeUnwatch link tag cell

end Sys2Proof.Machine
end

