-- ==== Sys2Proof/Machine/Dispatch.lean ====
section
/-! DEFINITION. One arm for each command: its meaning. -/

namespace Sys2Proof.Machine

def exec (i : Instr) (s : State) : Host.Outcome State Fault Refusal :=
  match i with
  | .powerOn rate => Sys2Proof.Machine.execPowerOn rate s
  | .resetComplete => Sys2Proof.Machine.execResetComplete s
  | .storageUpset cell => Sys2Proof.Machine.execStorageUpset cell s
  | .lineByteArrival link byte => Sys2Proof.Machine.execLineByteArrival link byte s
  | .partialTimeout link => Sys2Proof.Machine.execPartialTimeout link s
  | .resync link => Sys2Proof.Machine.execResync link s
  | .openSession link tag hostId eligible period => Sys2Proof.Machine.execOpen link tag hostId eligible period s
  | .closeSession link tag => Sys2Proof.Machine.execClose link tag s
  | .ping link tag echo => Sys2Proof.Machine.execPing link tag echo s
  | .querySession link tag => Sys2Proof.Machine.execQuerySession link tag s
  | .read link tag cell => Sys2Proof.Machine.execRead link tag cell s
  | .write link tag cell value => Sys2Proof.Machine.execWrite link tag cell value s
  | .fetchAdd link tag cell delta => Sys2Proof.Machine.execFetchAdd link tag cell delta s
  | .setCellClass link tag cell cls owner => Sys2Proof.Machine.execSetCellClass link tag cell cls owner s
  | .reserve link tag cell => Sys2Proof.Machine.execReserve link tag cell s
  | .commit link tag cell value => Sys2Proof.Machine.execCommit link tag cell value s
  | .release link tag => Sys2Proof.Machine.execRelease link tag s
  | .watch link tag cell => Sys2Proof.Machine.execWatch link tag cell s
  | .unwatch link tag cell => Sys2Proof.Machine.execUnwatch link tag cell s
  | .createQueue link tag queue label capacity overflow mask intended notify => Sys2Proof.Machine.execCreateQueue link tag queue label capacity overflow mask intended notify s
  | .destroyQueue link tag queue => Sys2Proof.Machine.execDestroyQueue link tag queue s
  | .bind link tag queue => Sys2Proof.Machine.execBind link tag queue s
  | .unbind link tag queue => Sys2Proof.Machine.execUnbind link tag queue s
  | .post link tag queue urgent payload => Sys2Proof.Machine.execPost link tag queue urgent payload s
  | .take link tag queue wait => Sys2Proof.Machine.execTake link tag queue wait s
  | .peek link tag queue => Sys2Proof.Machine.execPeek link tag queue s
  | .queryQueue link tag queue => Sys2Proof.Machine.execQueryQueue link tag queue s
  | .forwardPost => Sys2Proof.Machine.execForwardPost s
  | .setPolicy link tag cls policy => Sys2Proof.Machine.execSetPolicy link tag cls policy s
  | .clearFaults link tag => Sys2Proof.Machine.execClearFaults link tag s
  | .setForward link tag queue => Sys2Proof.Machine.execSetForward link tag queue s
  | .yieldAdmin link tag target => Sys2Proof.Machine.execYieldAdmin link tag target s
  | .configure link tag threshold limit label => Sys2Proof.Machine.execConfigure link tag threshold limit label s
  | .hubReset link tag scope => Sys2Proof.Machine.execHubReset link tag scope s
  | .queryHub link tag => Sys2Proof.Machine.execQueryHub link tag s
  | .drain => Sys2Proof.Machine.execDrain s
  | .holdExpiry cell => Sys2Proof.Machine.execHoldExpiry cell s
  | .waitingTakeExpiry queue => Sys2Proof.Machine.execWaitingTakeExpiry queue s
  | .leaseExpiry link => Sys2Proof.Machine.execLeaseExpiry link s
  | .cleanTeardown link => Sys2Proof.Machine.execCleanTeardown link s
  | .transmitterChoice link => Sys2Proof.Machine.execTransmitterChoice link s
  | .frameSent link => Sys2Proof.Machine.execFrameSent link s
  | .rstnAsserted => Sys2Proof.Machine.execRstnAsserted s

end Sys2Proof.Machine
end

