-- ==== Sys2Proof/Machine/Time.lean ====
section
/-! DEFINITION. The passing of one millisecond of the hub clock (R144): no deadline that the clock has reached and no pending drain outlives it (R49, R59, R91,
R114, R152; log 12). -/

namespace Sys2Proof.Machine

/-- Takes pending drains, oldest first, each operation completed before the next (R4, R54), until none is pending. The first argument bounds the drains
taken: each removes one request, and a further one comes only from a hold that still stands. -/
def takeDrains : Nat → State → State
  | 0, s => s.settle
  | n + 1, s => if s.settle.drains.isEmpty then s.settle else takeDrains n s.settle.takeDrain

/-- The pending drains are taken and what is due is completed; while a reset request stands no work is taken (R147). -/
def State.clearDrains (s : State) : State :=
  if s.resetStands then s else takeDrains (s.drains.length + s.holds.length) s

/-- All that is due at the present time of the hub clock is taken: the gaps that have run out (R152), the leases (R114), the waiting takes (R91) and the holds
(R49) whose deadline the clock has reached, and then the drains (R4). The manual lets these come in any order; this one is the model's (log 12). A transmitter's choice (R159) and a request that waits
are not among them: the clock may count before they are taken, which is the model's choice too (log 25). -/
def State.takeDue (s : State) : State :=
  let s := allLinks.foldl State.lapsePartial s
  let s := allLinks.foldl State.lapseLease s
  let s := (s.queues.map Prod.fst).foldl State.lapseTake s
  let s := (s.holds.map HoldRecord.cell).foldl State.lapseHold s
  s.clearDrains

/-- The hub clock counts one millisecond, and wraps (R144). -/
def State.count (s : State) : State := { s with clock := s.clock + 1 }

/-- One millisecond of the hub clock passes, nothing that is due being left behind; while RSTn is low the part is held at its power-on state (R136). -/
def State.tick (s : State) : State := if s.rstn then s.takeDue.count else s

end Sys2Proof.Machine
end

