-- ==== Sys2Proof/Safety.lean ====
section
/-! DEFINITION. The terms in which claims are stated: when a block takes a request, what an event changes by itself, the relations that say what a
modification, an opening, a teardown and a power-on state are, and the invariants of the hub. -/

namespace Sys2Proof.Machine

/-! ## When a request is taken -/

/-- Nothing is due before another event, it is this request's turn at the cell-store arbiter (R3), and no RELEASE or UNWATCH of its link goes first
(R21, R64). -/
abbrev State.takesCell (s : State) (l : Link) (tag : Tag) (r : Request) : Prop :=
  s.settled = true ∧ s.cellTurn = some (l, ⟨tag, r⟩) ∧ (getAt s.cellLines l).head? = some ⟨tag, r⟩

/-- It is this request's turn at the queue arbiter (R79): nothing is due before another event, or an operation of another block is in progress and the arbiter
can take the request, or finish carrying it out, inside it (R80, R127). -/
abbrev State.takesQueue (s : State) (l : Link) (tag : Tag) (r : Request) : Prop :=
  (s.settled = true ∧ s.queueTurn = some (l, ⟨tag, r⟩)) ∨
    (s.insideTurn = some (l, ⟨tag, r⟩) ∧ (getAt s.queueLines l).head? = some ⟨tag, r⟩)

/-- Nothing is due before another event, work is taken, and the request heads its link's cell requests (R21, R64). -/
abbrev State.takesInOrder (s : State) (l : Link) (tag : Tag) (r : Request) : Prop :=
  s.settled = true ∧ s.resetRequest = none ∧ (getAt s.cellLines l).head? = some ⟨tag, r⟩

/-- Nothing is due before another event, work is taken, the request is the oldest of its link's arrivals, and the table of R104 has SES, FLT or HUB
take it. -/
abbrev State.takesArrived (s : State) (l : Link) (tag : Tag) (r : Request) : Prop :=
  s.settled = true ∧ s.resetRequest = none ∧ (s.link l).inbox.head? = some ⟨tag, r⟩ ∧ s.verdict l r = .stay

/-! ## What taking a request changes by itself -/

/-- The cell-store arbiter has taken the oldest request of a link (R3). -/
def State.cellTaken (s : State) (l : Link) : State :=
  { s with cellPointer := l + 1, cellLines := setAt s.cellLines l ((getAt s.cellLines l).drop 1) }

/-- The queue arbiter has taken the oldest request of a link (R79). No forward post waits any longer for an operation that is carried out (R80). -/
def State.queueTaken (s : State) (l : Link) : State :=
  { s with
    queuePointer := l + 1
    queueLines := setAt s.queueLines l ((getAt s.queueLines l).drop 1)
    forwardPosts := s.forwardPosts.map fun p => { p with carrying := none } }

/-- RSV or WCH has taken the oldest cell request of a link (R21, R64). -/
def State.orderTaken (s : State) (l : Link) : State :=
  { s with cellLines := setAt s.cellLines l ((getAt s.cellLines l).drop 1) }

/-- SES, FLT or HUB has taken the oldest arrival of a link (R104). -/
def State.arrivalTaken (s : State) (l : Link) : State :=
  { s with links := setAt s.links l { s.link l with inbox := (s.link l).inbox.drop 1 } }

/-- A link unit once a reply has been placed: the request's tag is free and the reply is the newest (R156, R157). -/
def LinkUnit.answered (u : LinkUnit) (r : Reply) : LinkUnit :=
  { u with tags := u.tags.erase r.tag, replies := u.replies ++ [r] }

/-- A state in which a link has been given a reply and nothing else has changed. -/
def State.withReply (s : State) (l : Link) (r : Reply) : State :=
  { s with links := setAt s.links l ((s.link l).answered r) }

/-- A state in which a fault of a link's request has been refused: the occurred flag of its class is set and the FAULT reply placed (R123, R124). -/
def State.withRefusal (s : State) (l : Link) (tag : Tag) (kind : Byte) (f : HubFault) : State :=
  State.withReply
    { s with
      faults := setAt s.faults l
        { s.faultRecord l with occurred := setAt (s.faultRecord l).occurred (classIndex f.code.faultClass) true } }
    l ⟨kind + 0x80, tag, .fault, [classByte f.code.faultClass, f.code.byte] ++ le 2 f.subject ++ le 4 f.detail⟩

/-- A link unit once one of its counters has been raised: the link entry is pending, as a LINK_NOTICE unless it already was (R160). -/
def LinkUnit.noted (u : LinkUnit) (k : CounterName) : LinkUnit :=
  { u with counters := raiseCounter k u.counters, reports := { u.reports with linkEntry := some (u.reports.linkEntry.getD .notice) } }

/-- A state with one link unit replaced. -/
def State.withLink (s : State) (l : Link) (u : LinkUnit) : State := { s with links := setAt s.links l u }

/-- The command in which a request is taken. -/
def commandOf (l : Link) (tag : Tag) : Request → Instr
  | .openSession hostId eligible period => .openSession l tag hostId eligible period
  | .closeSession => .closeSession l tag
  | .ping echo => .ping l tag echo
  | .querySession => .querySession l tag
  | .read cell => .read l tag cell
  | .write cell value => .write l tag cell value
  | .fetchAdd cell delta => .fetchAdd l tag cell delta
  | .setCellClass cell cls owner => .setCellClass l tag cell cls owner
  | .reserve cell => .reserve l tag cell
  | .commit cell value => .commit l tag cell value
  | .release => .release l tag
  | .watch cell => .watch l tag cell
  | .unwatch cell => .unwatch l tag cell
  | .createQueue queue label capacity overflow mask intended notify =>
    .createQueue l tag queue label capacity overflow mask intended notify
  | .destroyQueue queue => .destroyQueue l tag queue
  | .bind queue => .bind l tag queue
  | .unbind queue => .unbind l tag queue
  | .post queue urgent payload => .post l tag queue urgent payload
  | .take queue wait => .take l tag queue wait
  | .peek queue => .peek l tag queue
  | .queryQueue queue => .queryQueue l tag queue
  | .setPolicy cls policy => .setPolicy l tag cls policy
  | .clearFaults => .clearFaults l tag
  | .setForward queue => .setForward l tag queue
  | .yieldAdmin target => .yieldAdmin l tag target
  | .configure threshold limit label => .configure l tag threshold limit label
  | .hubReset scope => .hubReset l tag scope
  | .queryHub => .queryHub l tag

/-- The cell index that a request of the cell-store arbiter names, and the queue index that a request of the queue arbiter names. -/
def cellIndexOf : Request → Option Half
  | .read cell | .write cell _ | .fetchAdd cell _ | .setCellClass cell _ _ | .reserve cell | .commit cell _ | .watch cell => some cell
  | _ => none

def queueIndexOf : Request → Option Byte
  | .createQueue queue .. | .destroyQueue queue | .bind queue | .unbind queue | .post queue _ _ | .take queue _ | .peek queue
  | .queryQueue queue => some queue
  | _ => none

/-- The default result of a request's kind (R125), laid out as its reply fields (R169). -/
def defaultResult (s : State) (l : Link) : Request → List Byte
  | .read _ => List.replicate 12 0
  | .write .. => List.replicate 5 0
  | .fetchAdd .. => List.replicate 13 0
  | .setCellClass .. => List.replicate 3 0
  | .reserve _ => List.replicate 13 0 ++ [BitVec.ofNat 8 (s.entry l).failures]
  | .commit .. => List.replicate 6 0
  | .watch _ => List.replicate 12 0 ++ [BitVec.ofNat 8 (s.watchCount l)]
  | .unwatch _ => [0, BitVec.ofNat 8 (s.watchCount l)]
  | .createQueue .. => [0, 0]
  | .destroyQueue _ => [0]
  | .bind _ => [0, 0]
  | .unbind _ => [0]
  | .post queue _ _ => [s.heldByte queue, 0]
  | .take .. => [0]
  | .peek _ => List.replicate 9 0
  | .queryQueue _ => List.replicate 17 0
  | .openSession .. => [0, 0, 0]
  | .setForward _ => [0xFF]
  | .yieldAdmin _ => [0]
  | .configure .. => List.replicate 4 0
  | .hubReset _ => [0]
  | .closeSession | .ping _ | .querySession | .release | .setPolicy .. | .clearFaults | .queryHub => []

/-- A request as FLT meets it when one of its checks fails. -/
def faulting (s : State) (l : Link) (tag : Tag) (r : Request) : Faulting := ⟨l, tag, requestKind r, defaultResult s l r⟩

/-- The index of a queue as a frame carries it. -/
def queueField (q : QueueIx) : Byte := BitVec.ofNat 8 q.val

/-! ## What a modification is (R11, R12, R13, R33, R68) -/

/-- A reservation entry after a modification of a cell by which it is not consumed (R33). -/
def brokenBy (c : CellIx) : Reservation → Reservation
  | .armed k v => if k = c then .broken c else .armed k v
  | .held k v => if k = c then .broken c else .held k v
  | .broken k => .broken k
  | .none => .none

/-- A watch record after a modification of a cell by the session of `modifier` (R68). -/
def countedBy (c : CellIx) (modifier : Link) (w : Watch) : Watch :=
  if w.cell = c ∧ w.link ≠ modifier then
    match w.pending with
    | none => { w with pending := some 1 }
    | some n => if n < 255 then { w with pending := some (n + 1) } else w
  else w

/-- What a modification of cell `c` to value `v` by the session of `modifier` makes of `s`, where `consumed` is the committing session, if a COMMIT is the
modification: its entry goes to NONE with failure count 0 (R28). Holds and drains are said apart. -/
structure Modification (s t : State) (c : CellIx) (v : Quad) (modifier : Link) (consumed : Option Link) : Prop where
  stored : t.cell c = { s.cell c with value := v, checkFails := false, poisoned := false, version := (s.cell c).version + 1 }
  otherCells : ∀ k, k ≠ c → t.cell k = s.cell k
  entries : ∀ k, consumed ≠ some k → t.entry k = { s.entry k with reservation := brokenBy c (s.entry k).reservation }
  consumedEntry : ∀ k, consumed = some k → t.entry k = {}
  watches : t.watches = s.watches.map (countedBy c modifier)
  count : t.modifications = s.modifications + 1

/-- The hold of a session on a cell has ended (R47): its record is ENDED and the cell's drain is requested; every other record stands as it was. -/
structure HoldEnds (s t : State) (l : Link) (c : CellIx) : Prop where
  record : t.holds = s.holds.map fun h => if isHoldOf l c h then { h with phase := .ended } else h
  drain : t.drains = s.drains ++ [c]

/-- No hold has ended or begun, and no drain was requested. -/
structure HoldsKept (s t : State) : Prop where
  records : t.holds = s.holds
  drains : t.drains = s.drains

/-! ## What a detection, and the loss of a reservation, are (R15, R17, R145) -/

/-- An access to cell `c` has found a check failure (R15, R145): the cell is poisoned, the detection counted, recorded as the latest and unreported, and an
INTEGRITY report pending for the admin. That the check code is one bit, which a detection clears, is the model's (log 15). -/
structure Detected (s t : State) (c : CellIx) : Prop where
  cell : t.cell c = { s.cell c with poisoned := true, checkFails := false }
  otherCells : ∀ k, k ≠ c → t.cell k = s.cell k
  rest : t = { s with
    cells := t.cells
    counters := { s.counters with
      detections := if s.counters.detections = 0xFFFFFFFF then 0xFFFFFFFF else s.counters.detections + 1 }
    unreported := if s.unreported < 255 then s.unreported + 1 else s.unreported
    latestCell := some c
    links := match s.admin with
      | some a => setAt s.links a { s.link a with reports := { (s.link a).reports with integrity := true } }
      | none => s.links }

/-- An access to a cell whose value may not be used takes an INTEGRITY fault with this code (R15, R16): POISONED, and nothing changes, or DETECTED. -/
def MeetsBadValue (s t : State) (c : CellIx) (code : FaultCode) : Prop :=
  ((s.cell c).poisoned = true ∧ code = .poisoned ∧ t = s) ∨
    ((s.cell c).poisoned = false ∧ (s.cell c).checkFails = true ∧ code = .detected ∧ Detected s t c)

/-- The entry of the session on `l` has gone to NONE, its failure count kept, and a hold that it owned has ended (R17, R47). -/
structure EntryLost (s t : State) (l : Link) : Prop where
  notHeld : (∀ c v, (s.entry l).reservation ≠ .held c v) → HoldsKept s t
  held : ∀ c v, (s.entry l).reservation = .held c v → s.holds.any (isHoldOf l c) = true → HoldEnds s t l c
  rest : t = { s with entries := setAt s.entries l ⟨.none, (s.entry l).failures⟩, holds := t.holds, drains := t.drains }

/-! ## What placing a message is (R86, R87, R91, R94) -/

/-- A message has been placed in queue `q`, whose descriptor was `d`, by the first case of R86 that applies and stores it or hands it over. -/
structure Placement (s t : State) (q : QueueIx) (d : Queue) (m : Message) : Prop where
  handed : ∀ w, d.waitingTake = some w → t.queue q = some { d with waitingTake := none } ∧
    t.links = (s.withReply w.link ⟨0xA5, w.tag, .ok,
      [0, m.senderLink] ++ le 2 m.senderHost ++ le 4 m.stamp ++ [if m.urgent then 1 else 0] ++ m.payload⟩).links
  dropped : d.waitingTake = none → d.capacity ≤ d.messages.length → ∀ before x after, d.messages = before ++ x :: after →
    ((x.urgent = false ∧ ∀ y ∈ before, y.urgent = true) ∨ (before = [] ∧ ∀ y ∈ d.messages, y.urgent = true)) →
      t.links = s.links ∧ t.queue q = some { d with
        messages := before ++ after ++ [m], drops := if d.drops < 65535 then d.drops + 1 else d.drops }
  appended : d.waitingTake = none → d.messages.length < d.capacity →
    t.queue q = some { d with messages := d.messages ++ [m] } ∧
      t.links = match d.owner with
        | some k => if d.notify && d.messages.isEmpty then
            setAt s.links k { s.link k with reports := { (s.link k).reports with
              arrivals := insertIx q (s.link k).reports.arrivals } }
          else s.links
        | none => s.links
  otherQueues : ∀ k, k ≠ q → t.queue k = s.queue k
  rest : t = { s with queues := t.queues, links := t.links }

/-- A message for the queue with descriptor `d` cannot be placed (R86, R127): no take waits, and the queue is at capacity under REFUSE, or below capacity with
no pool slot free. -/
def NoPlace (s : State) (d : Queue) : Prop :=
  d.waitingTake = none ∧
    ((d.capacity ≤ d.messages.length ∧ d.overflow = .refuse) ∨ (d.messages.length < d.capacity ∧ 256 ≤ s.slotsUsed))

/-! ## What a power-on state is (R2, R20, R42, R63, R78, R103, R122, R135, R151) -/

/-- Every block at the values the tables of the chapters give for power-on. -/
structure PowerOnValues (t : State) : Prop where
  cells : ∀ c, t.cell c = ⟨0, false, 0, .openAll, false⟩
  modifications : t.modifications = 0
  pointers : t.cellPointer = 0 ∧ t.queuePointer = 0
  waiting : ∀ l, t.cellLine l = [] ∧ t.queueLine l = []
  entries : ∀ l, t.entry l = ⟨.none, 0⟩
  holdUnit : t.holds = [] ∧ t.dwq = [] ∧ t.drains = [] ∧ t.draining = none
  watches : t.watches = []
  queues : ∀ q, t.queue q = none
  pool : t.slotsFree = 256
  faults : ∀ l, (∀ c, t.policy l c = .refuse) ∧ (∀ c, getAt (t.faultRecord l).occurred (classIndex c) = false) ∧
    (t.faultRecord l).lost = false ∧ (t.faultRecord l).designation = none
  sessions : ∀ l, t.session l = none
  links : ∀ l, t.link l = ⟨.hunt, [], [], [], [], ⟨none, false, false, none, []⟩, ⟨0, 0, 0, 0, 0, 0⟩, false, .idle⟩
  hub : t.hubState = .resetting ∧ t.resetRequest = none ∧ t.admin = none ∧ t.clock = 0
  configuration : t.config = ⟨4, 20, 0⟩
  detections : t.unreported = 0 ∧ t.latestCell = none
  counters : t.counters = ⟨0, 0, 0, 0, 0, 0, 0⟩
  scrub : t.scrubbing = true
  forwardPosts : t.forwardPosts = []

/-! ## What a teardown leaves (R115) -/

/-- The role after it has left the session on `l` (R138): with the lowest-numbered ATTACHED, admin-eligible session on another link, or vacant. The gaining
link has a ROLE report pending, and an INTEGRITY report while detections are unreported (R141); no other link but `l` changes. `s` is the state in which the
election is held. -/
structure Elected (s t : State) (l : Link) : Prop where
  winner : ∀ k, t.admin = some k → k ≠ l ∧ s.eligible k = true ∧ ∀ j, j < k → j ≠ l → s.eligible j = false
  vacant : t.admin = none → ∀ j, j ≠ l → s.eligible j = false
  gainer : ∀ k, t.admin = some k →
    t.link k = { s.link k with reports := { (s.link k).reports with
      role := true, integrity := (s.link k).reports.integrity || decide (0 < s.unreported) } }
  otherLinks : ∀ k, k ≠ l → t.admin ≠ some k → t.link k = s.link k

/-- What the teardown of the session on `l` makes of the blocks that R115 names; every other session, cell, queue and waiting request is kept, and all else. -/
structure TornDown (s t : State) (l : Link) : Prop where
  detached : t.session l = none
  entry : t.entry l = {}
  hold : ∀ c v, (s.entry l).reservation = .held c v → s.holds.any (isHoldOf l c) = true → HoldEnds s t l c
  noHold : (∀ c v, (s.entry l).reservation ≠ .held c v) → HoldsKept s t
  deferred : t.dwq = s.dwq.filter fun e => decide (e.link ≠ l)
  watches : t.watches = s.watches.filter fun w => decide (w.link ≠ l)
  ownQueues : ∀ q d, s.queue q = some d → d.owner = some l → t.queue q = some { d with owner := none, waitingTake := none }
  otherQueues : ∀ q, (∀ d, s.queue q = some d → d.owner ≠ some l) → t.queue q = s.queue q
  faults : t.faultRecord l = {}
  role : s.admin = some l → Elected s t l
  roleKept : s.admin ≠ some l → t.admin = s.admin ∧ ∀ k, k ≠ l → t.link k = s.link k
  cells : t.cells = s.cells
  otherSessions : ∀ k, k ≠ l → t.session k = s.session k
  otherEntries : ∀ k, k ≠ l → t.entry k = s.entry k
  otherFaults : ∀ k, k ≠ l → t.faultRecord k = s.faultRecord k
  counters : t.counters = s.counters ∧ t.modifications = s.modifications
  detections : t.unreported = s.unreported ∧ t.latestCell = s.latestCell
  otherLines : ∀ k, k ≠ l → t.cellLine k = s.cellLine k ∧ t.queueLine k = s.queueLine k
  rest : t = { s with
    sessions := t.sessions, entries := t.entries, holds := t.holds, drains := t.drains, dwq := t.dwq, watches := t.watches
    queues := t.queues, faults := t.faults, admin := t.admin, links := t.links, cellLines := t.cellLines
    queueLines := t.queueLines }

/-! ## What the beginning of a reset leaves (R148, R149, R162) -/

/-- A link unit after the beginning of a reset, a held RESYNC having been taken: the receiver, its partial frame and the frame being sent are kept. The latest
byte's time is set back as far as the hub clock is, so that the time gone since that byte is kept too (log 24). -/
def LinkUnit.afterReset (back : Clock) (u : LinkUnit) : LinkUnit where
  receiver := match u.receiver with
    | .hunt => .hunt
    | .length t => .length (t - back)
    | .collect got t => .collect got (t - back)
  tags := []
  heldFrames := []
  inbox := []
  replies := []
  reports := { linkEntry := if u.heldResync then some .resyncDone else if u.counters = {} then none else some .notice }
  counters := if u.heldResync then {} else u.counters
  heldResync := false
  transmitter := u.transmitter

/-- What the beginning of a reset of the given scope makes of `s`. -/
structure ResetBegun (s t : State) (scope : Scope) : Prop where
  hub : t.hubState = .resetting ∧ t.resetRequest = none ∧ t.admin = none
  sessions : ∀ l, t.session l = none
  links : ∀ l, t.link l = (s.link l).afterReset (if scope = .clear then s.clock else 0)
  arbiters : t.cellPointer = 0 ∧ t.queuePointer = 0 ∧ t.drains = [] ∧ t.draining = none ∧ t.forwardPosts = [] ∧ ∀ l, t.cellLine l = [] ∧ t.queueLine l = []
  entries : ∀ l, t.entry l = {}
  holdUnit : t.holds = [] ∧ t.dwq = []
  watches : t.watches = []
  queues : ∀ q, t.queue q = none
  pool : t.slotsFree = 256
  faults : ∀ l, t.faultRecord l = {}
  counters : t.modifications = 0 ∧ t.counters = {}
  detections : t.unreported = 0 ∧ t.latestCell = none
  cells : ∀ c, t.cell c = if scope = .clear then blankCell else s.cell c
  configuration : t.config = if scope = .clear then ⟨4, 20, 0⟩ else s.config
  clock : t.clock = if scope = .clear then 0 else s.clock
  scrub : t.scrubbing = decide (scope = .clear)
  kept : t.rstn = s.rstn ∧ t.lineRate = s.lineRate ∧ t.pending = s.pending ∧ t.freeSeed = s.freeSeed

/-! ## Runs of commands -/

/-- Runs commands one after another, each on the state the one before it left. -/
def execAll : List Instr → State → Result
  | [], s => .next s
  | c :: rest, s =>
    match exec c s with
    | .next t => execAll rest t
    | .fault f => .fault f
    | .refused r => .refused r

/-- The operation in progress in `s` is completed, event by event, in `t` (R54, R80): a pending forward post is taken; when none is pending the drain in
progress goes on. -/
inductive Finishes : State → State → Prop where
  | done {s : State} : s.inProgress = false → Finishes s s
  | post {s u t : State} : s.forwardPosts ≠ [] → exec .forwardPost s = .next u → Finishes u t → Finishes s t
  | drain {s u t : State} : s.forwardPosts = [] → s.draining ≠ none → exec .drain s = .next u → Finishes u t → Finishes s t

/-- The command's event can fall inside the operation in progress of another block: a queue request that the arbiter takes or finishes there (R80, R127), the
expiry of a waiting take (R79, R91), a transmitter's choice of anything but a CHANGED report (R70, R96), and the going on of the operation itself. -/
def State.fallsInside (s : State) (c : Instr) : Prop :=
  s.inProgress = true ∧
    ((∃ l tag r, c = commandOf l tag r ∧ s.takesQueue l tag r) ∨ (∃ q, c = .waitingTakeExpiry q) ∨
      (∃ l, c = .transmitterChoice l ∧ s.changedIsNext l = false) ∨ (c = .drain ∧ s.forwardPosts = []))

/-! ## The part's own events -/

/-- The events that the part takes by itself: a gap, a lease, a waiting take or a hold that runs out, a drain, a forward post, a clean teardown. -/
inductive OwnEvent : Instr → Prop where
  | partialTimeout (l : Link) : OwnEvent (.partialTimeout l)
  | leaseExpiry (l : Link) : OwnEvent (.leaseExpiry l)
  | waitingTakeExpiry (q : QueueIx) : OwnEvent (.waitingTakeExpiry q)
  | holdExpiry (c : CellIx) : OwnEvent (.holdExpiry c)
  | drain : OwnEvent .drain
  | forwardPost : OwnEvent .forwardPost
  | cleanTeardown (l : Link) : OwnEvent (.cleanTeardown l)

/-- None of the part's own events is due. -/
def State.quiet (s : State) : Prop := ∀ c, OwnEvent c → exec c s = .next s

/-! ## Invariants -/

/-- The cell store is in its canonical form: indices strictly rising, and no entry equal to what an unlisted cell reads as. -/
abbrev CellsWf (cells : List (CellIx × Cell)) : Prop :=
  cells.Pairwise (fun a b => a.1 < b.1) ∧ ∀ e ∈ cells, e.2 ≠ blankCell

/-- Every reservation entry agrees with its cell and its hold (R19, R24, R33, R35, R39): the failure count is at most 15; an ARMED or HELD entry was
armed at the cell's version; a HELD entry has failure count 0 and a STANDING record. -/
def ReservationsWf (s : State) : Prop :=
  ∀ l, (s.entry l).failures ≤ 15 ∧
    match (s.entry l).reservation with
    | .armed c v => v = (s.cell c).version
    | .held c v => v = (s.cell c).version ∧ (s.entry l).failures = 0 ∧ s.holds.any (isHoldOf l c) = true
    | .broken _ => True
    | .none => True

/-- The hold unit and its queue (R4, R20, R39, R41, R61, R80): a cell has at most one hold record, and a link too, so that there are at most eight; a
STANDING record's session is HELD on its cell; the drains requested are those of the ENDED records, each once; a DETACHED link has no reservation; the DWQ
has at most 32 entries, as its high-water mark says, each for a cell with a hold record, or of the drain in progress; at most one forward post is pending, and
none between the entries of a drain. -/
def HoldsWf (s : State) : Prop :=
  s.holds.Pairwise (fun a b => a.cell ≠ b.cell ∧ a.holder ≠ b.holder) ∧
    (∀ h ∈ s.holds, ∀ d, h.phase = .standing d → ∃ v, (s.entry h.holder).reservation = .held h.cell v) ∧
    s.drains.Nodup ∧ (∀ c, c ∈ s.drains ↔ ∃ h ∈ s.holds, h.cell = c ∧ h.phase = .ended) ∧
    (∀ l, s.session l = none → (s.entry l).reservation = .none) ∧
    s.dwq.length ≤ s.counters.highWater ∧ s.counters.highWater ≤ 32 ∧
    (∀ e ∈ s.dwq, (∃ h ∈ s.holds, h.cell = e.cell) ∨ (∃ p ∈ s.forwardPosts, p.resume = some e.cell) ∨ s.draining = some e.cell) ∧
    s.forwardPosts.length ≤ 1 ∧ (s.forwardPosts ≠ [] → s.draining = none)

/-- No STANDING hold outlives its deadline (R49): while no reset request stands, the deadline is at most 255 ms ahead of the hub clock, and not behind it. -/
def HoldTimesWf (s : State) : Prop :=
  s.resetRequest = none → ∀ h ∈ s.holds, ∀ d, h.phase = .standing d → (d - s.clock).toNat ≤ 255

/-- The watch table (R62): at most four records a session, no two with the same link and cell, a coalesced count in 1 to 255. -/
def WatchesWf (s : State) : Prop :=
  (∀ l, s.watchCount l ≤ 4) ∧ s.watches.Pairwise (fun a b => ¬(a.link = b.link ∧ a.cell = b.cell)) ∧
    ∀ w ∈ s.watches, ∀ n, w.pending = some n → 1 ≤ n ∧ n ≤ 255

/-- One queue descriptor (R75, R86, R90): its capacity is 1 to 64, it holds no more than its capacity, its drop count fits, and a waiting take belongs to the
owner of an empty queue. -/
def QueueWf (d : Queue) : Prop :=
  1 ≤ d.capacity ∧ d.capacity ≤ 64 ∧ d.messages.length ≤ d.capacity ∧ d.drops ≤ 65535 ∧
    ∀ w, d.waitingTake = some w → d.owner = some w.link ∧ d.messages = []

/-- The queue engine (R75, R76): the descriptors are listed with indices rising, each well formed, and the pool of 256 slots suffices. -/
def QueuesWf (s : State) : Prop :=
  s.queues.Pairwise (fun a b => a.1 < b.1) ∧ (∀ e ∈ s.queues, QueueWf e.2) ∧ s.slotsUsed ≤ 256

/-- The session table (R102): host identities are not 0 and unique among the sessions that are not DETACHED, and a lease deadline is present exactly when the
period is not 0. -/
def SessionsWf (s : State) : Prop :=
  (∀ l x, s.session l = some x → x.hostId ≠ 0 ∧ (x.deadline = none ↔ x.period = 0)) ∧
    ∀ k l x y, s.session k = some x → s.session l = some y → x.hostId = y.hostId → k = l

/-- The administrative role (R138, R141, R145): an admin is ATTACHED and admin-eligible; where such a session exists, there is an admin; an INTEGRITY report is
pending for no one but the admin, and for the admin while detections are unreported. -/
def RoleWf (s : State) : Prop :=
  (∀ a, s.admin = some a → s.eligible a = true) ∧ (s.admin = none → ∀ l, s.eligible l = false) ∧
    (∀ l, (s.link l).reports.integrity = true → s.admin = some l) ∧
    ∀ a, s.admin = some a → 0 < s.unreported → (s.link a).reports.integrity = true

/-- The fault records (R122, R131): FORM's policy is REFUSE, and no designation names an ABSENT queue. -/
def FaultsWf (s : State) : Prop :=
  ∀ l, s.policy l .form = .refuse ∧ ∀ q, (s.faultRecord l).designation = some q → (s.queue q).isSome = true

/-- The receiver of a link (R151, R152): a partial frame has a LEN of 2 to 62 and is not yet complete. -/
def ReceiverWf : Receiver → Prop
  | .hunt => True
  | .length _ => True
  | .collect got _ => ∃ len rest, got = len :: rest ∧ 2 ≤ len.toNat ∧ len.toNat ≤ 62 ∧ rest.length < len.toNat + 2

/-- The link units (R151, R158, R160): at most four tags in flight, no two equal; a partial frame that can still become a frame; ARRIVAL entries with queue
indices rising; counters of at most 255, with the link entry pending while one is above 0. -/
def LinksWf (s : State) : Prop :=
  ∀ l, (s.link l).tags.Nodup ∧ (s.link l).tags.length ≤ 4 ∧ ReceiverWf (s.link l).receiver ∧
    (s.link l).reports.arrivals.Pairwise (fun a b => a < b) ∧
    (s.link l).counters.noise ≤ 255 ∧ (s.link l).counters.lengthErrors ≤ 255 ∧ (s.link l).counters.crcErrors ≤ 255 ∧
    (s.link l).counters.partialTimeouts ≤ 255 ∧ (s.link l).counters.overruns ≤ 255 ∧ (s.link l).counters.duplicateTags ≤ 255 ∧
    ((s.link l).counters ≠ {} → (s.link l).reports.linkEntry ≠ none)

/-- The tags of a link's requests in flight that wait at an arbiter, at RSV or WCH, in the DWQ, as a waiting take or for a forward post. -/
def State.atBlocks (s : State) (l : Link) : List Tag :=
  (s.cellLine l).map Waiting.tag ++ (s.queueLine l).map Waiting.tag ++
    (s.dwq.filter fun e => decide (e.link = l)).map DwqEntry.tag ++
    ((s.queues.filterMap fun e => e.2.waitingTake).filter fun w => decide (w.link = l)).map WaitingTake.tag ++
    (s.forwardPosts.filter fun p => decide (p.link = l)).map ForwardPost.tag

/-- The tags of all a link's requests in flight that wait somewhere: those at the blocks, and those the link unit still has. -/
def State.outstanding (s : State) (l : Link) : List Tag :=
  (s.link l).heldFrames.map RawFrame.tag ++ (s.link l).inbox.map Waiting.tag ++ s.atBlocks l

/-- The requests of a link (R104, R109, R151, R155, R156, R157): what waits has its tag in flight, each once; requests in flight and waiting replies together
are at most 4; a CLOSING session has the tag of its CLOSE in flight besides; nothing of a DETACHED link waits at a block. -/
def RequestsWf (s : State) : Prop :=
  ∀ l, (s.outstanding l).Subperm (s.link l).tags ∧ (s.link l).tags.length + (s.link l).replies.length ≤ 4 ∧
    (∀ x, s.session l = some x → x.phase = .closing → (s.outstanding l).length < (s.link l).tags.length) ∧
    (s.session l = none → s.atBlocks l = [])

/-- The configuration record and HUB's saturating count (R135, R143). -/
def HubWf (s : State) : Prop :=
  s.config.threshold ≤ 15 ∧ 1 ≤ s.config.limit ∧ s.config.limit ≤ 255 ∧ s.unreported ≤ 255

end Sys2Proof.Machine
end

