-- ==== Sys2Proof/WellFormed.lean ====
section
/-! DEFINITION. Which requests and commands can come at all: what the body checks of R167 and R168 leave, where a field's type
does not already say it. -/

namespace Sys2Proof

/-- A request that the body checks let through: a PING's echo is 0 to 8 bytes and a POST's payload 0 to 48 (R167), and the owner
field of SET_CELL_CLASS is 0 unless the class is OWNED (R10, R168). -/
def Request.wellFormed : Request → Bool
  | .ping echo => decide (echo.length ≤ Config.echoMax)
  | .post _ _ payload => decide (payload.length ≤ Config.payloadMax)
  | .setCellClass _ cls owner => decide (cls = .owned) || decide (owner = 0)
  | _ => true

/-- A command is well formed when the request it takes could have passed the body checks. -/
def Instr.wellFormed : Instr → Bool
  | .ping _ _ echo => Request.wellFormed (.ping echo)
  | .post _ _ queue urgent payload => Request.wellFormed (.post queue urgent payload)
  | .setCellClass _ _ cell cls owner => Request.wellFormed (.setCellClass cell cls owner)
  | _ => true

end Sys2Proof
end

