-- ==== Sys2Proof/Certificates/Slice0/Obligations.lean ====
section
/-! DEFINITION. The statements for the provers. A docstring names the rules of spec/ that a statement formalises; "log n" is notes/assumptions/n.md. -/

section

open Sys2Proof Sys2Proof.Machine

/-! ### The command queue, the pins and the storage -/

/-- The step takes the command at the front of the queue and runs it with the queue's rest. The queue is the model's (log 1). -/
def Obligations.StepRunsTheFrontCommand : Prop :=
  ∀ (c : Instr) (rest : List Instr) (s : State), s.pending = c :: rest → step s = exec c { s with pending := rest }

/-- The model never stops: every command answers a next state in every state and leaves the commands that wait as they are; with no
command waiting the part's own events that are due (expiries, gaps, drains, forward posts and clean teardowns) are taken, each as its
command takes it, until none is, and the hub clock then counts one millisecond; with RSTn low nothing happens. In a state in which an
operation is in progress or a clean teardown is due, what is due is completed first, the operation and then the clean teardowns from the
lowest link up, and every command but those of the pins, the storage, a forward post, a clean teardown, a frame's end and the commands
that can fall inside the operation is what it is in the state so settled, or changes nothing when it is not taken there. That a step on
an empty queue counts a millisecond, and that what is due is taken before it does, is the model's choice (log 12), and so are that
the clock may count while an IDLE transmitter has something waiting or a request waits (log 25), the queue (log 1), the completing of
what is due (log 8) and the order of the teardowns (log 21). -/
def Obligations.EveryStepGoesOn : Prop :=
  (∀ s : State, s.pending = [] →
      (s.rstn = true →
        ∃ cs u, (∀ c ∈ cs, OwnEvent c) ∧ execAll cs s = .next u ∧ u.quiet ∧ u.clock = s.clock ∧
          step s = .next { u with clock := u.clock + 1 }) ∧
      (s.rstn = false → step s = .next s)) ∧
  (∀ (c : Instr) (s : State), ∃ t, exec c s = .next t ∧ t.pending = s.pending) ∧
  (∀ s : State, (s.settled = true ∨ s.resetRequest ≠ none → s.settle = s) ∧
      (s.resetRequest = none →
        s.settle.settled = true ∧ ∃ u, Finishes s u ∧ execAll (allLinks.map Instr.cleanTeardown) u = .next s.settle)) ∧
  (∀ (c : Instr) (s : State), (∀ rate, c ≠ .powerOn rate) → c ≠ .rstnAsserted → c ≠ .resetComplete → (∀ k, c ≠ .storageUpset k) →
      c ≠ .forwardPost → (∀ l, c ≠ .cleanTeardown l) → (∀ l, c ≠ .frameSent l) → ¬s.fallsInside c →
        (exec c s.settle ≠ .next s.settle → exec c s = exec c s.settle) ∧ (exec c s = .next s ∨ exec c s = exec c s.settle))

/-- R136 with R2, R20, R42, R63, R78, R103, R122, R135, R151: right after reset, after POWER_ON from any state and after
RSTN_ASSERTED every block has its power-on values, the hub is RESETTING, and POWER_ON samples the rate straps (00, pins). While
RSTn is low no command but these two changes anything. That POWER_ON is taken in every state and that RSTn low stops every other
command is log 19, and that the cells read as scrubbed from the beginning of the scrub is log 20; both are the model's reading. -/
def Obligations.PinsResetEveryBlock : Prop :=
  (PowerOnValues State.reset ∧
      ∀ (rate : LineRate) (s : State), ∃ t, exec (.powerOn rate) s = .next t ∧ PowerOnValues t ∧ t.rstn = true ∧ t.lineRate = rate) ∧
  ((∀ s : State, ∃ t, exec .rstnAsserted s = .next t ∧ PowerOnValues t ∧ t.rstn = false) ∧
      ∀ (c : Instr) (t : State), PowerOnValues t → t.rstn = false → (∀ rate, c ≠ .powerOn rate) → c ≠ .rstnAsserted →
        exec c t = .next t)

/-- R136: when the cell store reports that its reset is complete the hub is READY, and nothing else changes. A report outside
RESETTING cannot come and changes nothing (log 7). -/
def Obligations.ResetCompleteMakesReady : Prop :=
  ∀ s : State,
    (s.rstn = true → s.hubState = .resetting → exec .resetComplete s = .next { s with hubState := .ready, scrubbing := false }) ∧
    (s.hubState = .ready → exec .resetComplete s = .next s)

/-- R14: a storage upset makes the cell's value fail its check, latently: every other field of the record, every other cell and
everything else stay; a cell already poisoned or already failing is left as it is. During the scrub the upset is either made so
or overwritten (log 5). -/
def Obligations.StorageUpsetIsLatent : Prop :=
  ∀ (s : State) (c : CellIx), s.rstn = true →
    ∃ t, exec (.storageUpset c) s = .next t ∧ (∀ k, k ≠ c → t.cell k = s.cell k) ∧
      (s.scrubbing = false →
        t = { s with cells := t.cells } ∧ t.cell c = if (s.cell c).poisoned then s.cell c else { s.cell c with checkFails := true }) ∧
      (s.scrubbing = true →
        t = { s with cells := t.cells, freeSeed := s.freeSeed + 1 } ∧
          (t.cell c = s.cell c ∨ t.cell c = { s.cell c with checkFails := true }))

/-! ### The arbiters (R3, R79) -/

/-- R3, R4, R21, R64, R79, R80: while nothing goes first, each arbiter takes the oldest waiting request of the first link that has
one, counting upward from its own rotation pointer and wrapping from 7 to 0, and no other request; while a drain is pending the
cell-store arbiter takes no link request, and while a forward post is pending the queue arbiter takes none, but it finishes the one it
was carrying out as the post became pending, and between two entries of a drain it takes requests in their turn (R127, log 8). A RELEASE or
UNWATCH does not wait at the arbiter, and is taken only when it heads its link's cell requests; one that stands before the request whose
turn it is goes first, and until then the arbiter takes no request of any link (log 17, the model's reading of the three rules together).
A command that is not taken changes nothing (log 7). -/
def Obligations.ArbitersTakeInRotation : Prop :=
  (∀ (s : State) (l : Link) (w : Waiting), s.resetRequest = none →
      (s.drains = [] →
        (s.cellTurn = some (l, w) ↔
          s.cellHead l = some w ∧ ∀ k : Link, (k - s.cellPointer).val < (l - s.cellPointer).val → s.cellHead k = none)) ∧
      (s.queueChoice = some (l, w) ↔
        (s.queueLine l).head? = some w ∧ ∀ k : Link, (k - s.queuePointer).val < (l - s.queuePointer).val → s.queueLine k = []) ∧
      (s.forwardPosts = [] → s.queueTurn = s.queueChoice)) ∧
  (∀ s : State, (s.drains ≠ [] → s.cellTurn = none) ∧ (s.forwardPosts ≠ [] → s.queueTurn = none)) ∧
  (∀ s : State,
      (∀ p rest, s.resetRequest = none → s.forwardPosts = p :: rest → s.insideTurn = p.carrying) ∧
      (s.forwardPosts = [] → s.insideTurn = if s.draining = none then none else s.queueTurn) ∧
      (s.resetRequest ≠ none → s.insideTurn = none)) ∧
  (∀ (s : State) (l : Link), let passed := fun r : Request => r = .release ∨ ∃ cell, r = .unwatch cell
      (∀ w, s.cellHead l = some w ↔
        ∃ before after, getAt s.cellLines l = before ++ w :: after ∧ (∀ b ∈ before, passed b.request) ∧ ¬passed w.request) ∧
      (s.cellHead l = none ↔ ∀ w ∈ getAt s.cellLines l, passed w.request)) ∧
  (∀ (s : State) (l k : Link) (w : Waiting) (tag : Tag) (r : Request), s.settled = true → s.cellTurn = some (l, w) →
      (getAt s.cellLines l).head? ≠ some w → cellIndexOf r ≠ none → exec (commandOf k tag r) s = .next s) ∧
  (∀ (s : State) (k : Link) (tag : Tag) (r : Request), s.settled = true →
      (cellIndexOf r ≠ none → s.cellTurn ≠ some (k, ⟨tag, r⟩) → exec (commandOf k tag r) s = .next s) ∧
      (queueIndexOf r ≠ none → s.queueTurn ≠ some (k, ⟨tag, r⟩) → exec (commandOf k tag r) s = .next s) ∧
      (r = .release ∨ (∃ cell, r = .unwatch cell) → (getAt s.cellLines k).head? ≠ some ⟨tag, r⟩ → exec (commandOf k tag r) s = .next s))

/-! ### The receivers (R152 to R155, R163, R164) -/

/-- R152, its table: what the receiver does with a byte in HUNT, in LENGTH and, short of the frame's last byte, in COLLECT, when no
gap has run out. A byte of 0xA5 in LENGTH is a length error and is found again by the rescan as a SYNC (R153). -/
def Obligations.ReceiverTakesBytesByState : Prop :=
  ∀ (s : State) (l : Link) (b : Byte), s.rstn = true → s.settled = true →
    ((s.link l).receiver = .hunt →
      exec (.lineByteArrival l b) s =
        .next (s.withLink l (if b = 0xA5 then { s.link l with receiver := .length s.clock } else (s.link l).noted .noise))) ∧
    (∀ t, (s.link l).receiver = .length t → reached s.clock (t + 3) = false →
      (2 ≤ b.toNat → b.toNat ≤ 62 →
        exec (.lineByteArrival l b) s = .next (s.withLink l { s.link l with receiver := .collect [b] s.clock })) ∧
      (b = 0xA5 →
        exec (.lineByteArrival l b) s =
          .next (s.withLink l { (s.link l).noted .lengthErrors with receiver := .length s.clock })) ∧
      (b.toNat < 2 ∨ 62 < b.toNat → b ≠ 0xA5 →
        exec (.lineByteArrival l b) s =
          .next (s.withLink l { ((s.link l).noted .lengthErrors).noted .noise with receiver := .hunt }))) ∧
    (∀ t len got, (s.link l).receiver = .collect (len :: got) t → reached s.clock (t + 3) = false → 2 ≤ len.toNat → len.toNat ≤ 62 →
      got.length + 1 < len.toNat + 2 →
        exec (.lineByteArrival l b) s = .next (s.withLink l { s.link l with receiver := .collect (len :: got ++ [b]) s.clock }))

/-- R152, R154, R163, R164: from HUNT, the bytes of a frame laid out with its SYNC, LEN, KIND, TAG, BODY and CRC are received as
exactly that frame, the receiver is in HUNT again, and nothing else happens but what a valid frame brings about. -/
def Obligations.EncodedFrameIsReceived : Prop :=
  ∀ (s : State) (l : Link) (kind : Byte) (tag : Tag) (body : List Byte),
    s.rstn = true → s.settled = true → (s.link l).receiver = .hunt → body.length ≤ 60 →
      execAll ((frameBytes kind tag body).map (Instr.lineByteArrival l)) s = .next (s.validFrame l ⟨kind, tag, body⟩)

/-- R152 to R154: a complete frame whose CRC fails, and a partial frame whose latest byte is 3 ms old, are discarded and counted,
and the bytes after the SYNC are taken again from HUNT: a byte outside a frame is noise, a frame that lies whole among them is
received, and a SYNC whose frame they do not complete starts a partial frame, or, after a gap discard, is discarded as a further
partial timeout. After a gap discard the receiver is in HUNT whatever the bytes. A byte that arrives when the gap has run out is
taken as if the partial frame had been discarded before it (log 13, the model's reading). -/
def Obligations.DiscardedFrameIsRescanned : Prop :=
  (∀ (s : State) (l : Link) (t : Clock) (len b : Byte) (got : List Byte), s.rstn = true → s.settled = true →
      (s.link l).receiver = .collect (len :: got) t → reached s.clock (t + 3) = false → 2 ≤ len.toNat → len.toNat ≤ 62 →
      got.length + 1 = len.toNat + 2 → le 2 (crc (len :: (got ++ [b]).take len.toNat)) ≠ (got ++ [b]).drop len.toNat →
        let again := len :: (got ++ [b])
        let discarded := fun junk : List Byte => { Nat.repeat (LinkUnit.noted · .noise) junk.length ((s.link l).noted .crcErrors) with
          receiver := .hunt }
        (0xA5 ∉ again → exec (.lineByteArrival l b) s = .next (s.withLink l (discarded again))) ∧
        (∀ junk kind tag body rest, again = junk ++ frameBytes kind tag body ++ rest → body.length ≤ 60 → 0xA5 ∉ junk → 0xA5 ∉ rest →
          let v := (s.withLink l (discarded junk)).validFrame l ⟨kind, tag, body⟩
          exec (.lineByteArrival l b) s = .next (v.withLink l (Nat.repeat (LinkUnit.noted · .noise) rest.length (v.link l)))) ∧
        (∀ junk, again = junk ++ [0xA5] → 0xA5 ∉ junk →
          exec (.lineByteArrival l b) s = .next (s.withLink l { discarded junk with receiver := .length s.clock })) ∧
        (∀ junk (n : Byte) more, again = junk ++ 0xA5 :: n :: more → 0xA5 ∉ junk → 2 ≤ n.toNat → n.toNat ≤ 62 → more.length < n.toNat + 2 →
          exec (.lineByteArrival l b) s = .next (s.withLink l { discarded junk with receiver := .collect (n :: more) s.clock }))) ∧
  (∀ (s : State) (l : Link) (t : Clock), s.settled = true → reached s.clock (t + 3) = true →
      ((s.link l).receiver = .length t →
        exec (.partialTimeout l) s = .next (s.withLink l { (s.link l).noted .partialTimeouts with receiver := .hunt })) ∧
      (∀ got, (s.link l).receiver = .collect got t →
        let discarded := fun junk : List Byte =>
          { Nat.repeat (LinkUnit.noted · .noise) junk.length ((s.link l).noted .partialTimeouts) with receiver := .hunt }
        (∃ u, exec (.partialTimeout l) s = .next u ∧ (u.link l).receiver = .hunt) ∧
        (0xA5 ∉ got → exec (.partialTimeout l) s = .next (s.withLink l (discarded got))) ∧
        (∀ junk kind tag body rest, got = junk ++ frameBytes kind tag body ++ rest → body.length ≤ 60 → 0xA5 ∉ junk → 0xA5 ∉ rest →
          let v := (s.withLink l (discarded junk)).validFrame l ⟨kind, tag, body⟩
          exec (.partialTimeout l) s = .next (v.withLink l (Nat.repeat (LinkUnit.noted · .noise) rest.length (v.link l)))) ∧
        (∀ junk more, got = junk ++ 0xA5 :: more → 0xA5 ∉ junk → 0xA5 ∉ more →
          (more = [] ∨ ∃ (n : Byte) (some : List Byte), more = n :: some ∧ 2 ≤ n.toNat ∧ n.toNat ≤ 62 ∧ some.length < n.toNat + 2) →
            exec (.partialTimeout l) s =
              .next (s.withLink l (Nat.repeat (LinkUnit.noted · .noise) more.length ((discarded junk).noted .partialTimeouts)))))) ∧
  (∀ (s u : State) (l : Link) (b : Byte), s.rstn = true → s.settled = true → s.gapDue l = true → exec (.partialTimeout l) s = .next u →
      u.settled = true → exec (.lineByteArrival l b) s = exec (.lineByteArrival l b) u) ∧
  (∀ (s : State) (l : Link), s.gapDue l = true ↔
      ∃ t, ((s.link l).receiver = .length t ∨ ∃ got, (s.link l).receiver = .collect got t) ∧ reached s.clock (t + 3) = true)

/-- R155: a valid frame other than RESYNC meets the window: with four requests in flight and replies waiting it is an overrun; with
its tag in flight, a duplicate tag; else it is accepted, its tag in flight, and goes to the body checks, or is held unchecked
while a reset request stands. -/
def Obligations.WindowTakesAtMostFour : Prop :=
  ∀ (s : State) (l : Link) (f : RawFrame),
    (4 ≤ (s.link l).tags.length + (s.link l).replies.length → s.windowFrame l f = s.withLink l ((s.link l).noted .overruns)) ∧
    ((s.link l).tags.length + (s.link l).replies.length < 4 → f.tag ∈ (s.link l).tags →
      s.windowFrame l f = s.withLink l ((s.link l).noted .duplicateTags)) ∧
    ((s.link l).tags.length + (s.link l).replies.length < 4 → f.tag ∉ (s.link l).tags →
      (s.resetRequest = none →
        s.windowFrame l f = (s.withLink l { s.link l with tags := (s.link l).tags ++ [f.tag] }).checkAccepted l f) ∧
      (s.resetRequest ≠ none →
        s.windowFrame l f =
          s.withLink l { s.link l with tags := (s.link l).tags ++ [f.tag], heldFrames := (s.link l).heldFrames ++ [f] }))

/-- R113, R154, R161: a valid frame renews the lease of the link's session, whatever the window and the body checks then make of it,
and changes no session otherwise. After the renewal a frame of kind 0x7F, whatever its tag and body, is taken as RESYNC, just as
the RESYNC command takes it, and any other frame meets the window. That the command is the arrival of the whole frame is log 6. -/
def Obligations.ValidFrameRenewsTheLease : Prop :=
  (∀ (s : State) (l : Link) (f : RawFrame), f.kind = 0x7F → s.rstn = true → s.settled = true → (s.link l).receiver = .hunt →
      exec (.resync l) s = .next (s.validFrame l f)) ∧
  ∀ (s : State) (l : Link) (f : RawFrame), f.kind ≠ 0x7F →
    (∀ x, s.session l = some x →
      (s.validFrame l f).session l =
        some { x with deadline := if x.period = 0 then none else some (s.clock + BitVec.ofNat 32 (x.period.toNat * 100)) }) ∧
    (s.session l = none → (s.validFrame l f).session l = none) ∧ (∀ k, k ≠ l → (s.validFrame l f).session k = s.session k) ∧
    s.validFrame l f =
      State.windowFrame
        { s with
          sessions := match s.session l with
            | none => s.sessions
            | some x => setAt s.sessions l (some { x with
                deadline := if x.period = 0 then none else some (s.clock + BitVec.ofNat 32 (x.period.toNat * 100)) }) }
        l f

/-! ### The body checks (R167 to R169) -/

/-- R167 to R169: the body of every well-formed request, laid out field by field, passes the body checks of its kind and is read as
exactly that request, every field at every value. -/
def Obligations.RequestBodyIsReadBack : Prop :=
  ∀ r : Request, r.wellFormed = true → checkBody (requestKind r) (requestBody r) = .ok r

/-- R128, R165, R167 to R169: the body checks, in their order: a kind that is no request's is UNKNOWN_KIND with the kind; a length out
of the kind's range BODY_LENGTH with the length; an owner host id that is not 0 with class OPEN or ADMIN_WRITE RESERVED_SET with its
offset; the first enumerated field out of its set ENUM_VALUE with its offset; all FORM faults with subject 0, and a body that passes
them is a request, which joins the link's arrivals behind the earlier ones, where SES looks at it (R155). A frame that fails them is answered at once with that fault, whatever the policies; the session's FORM flag is set
if there is a session, and nothing else changes. -/
def Obligations.FormFaultsAreRefusedAtOnce : Prop :=
  (let lengths : List (Byte × Nat × Nat) :=
      [(0x01, 5, 5), (0x02, 0, 0), (0x03, 0, 8), (0x04, 0, 0), (0x10, 2, 2), (0x11, 10, 10), (0x12, 10, 10), (0x13, 5, 5),
        (0x18, 2, 2), (0x19, 10, 10), (0x1A, 0, 0), (0x1C, 2, 2), (0x1D, 2, 2), (0x20, 9, 9), (0x21, 1, 1), (0x22, 1, 1),
        (0x23, 1, 1), (0x24, 2, 50), (0x25, 3, 3), (0x26, 1, 1), (0x27, 1, 1), (0x30, 2, 2), (0x31, 0, 0), (0x32, 1, 1),
        (0x33, 1, 1), (0x34, 4, 4), (0x35, 1, 1), (0x36, 0, 0)]
    let sets : List (Byte × Nat × Nat × Nat) :=
      [(0x01, 2, 0, 1), (0x13, 2, 0, 2), (0x20, 4, 0, 1), (0x20, 8, 0, 1), (0x24, 1, 0, 1), (0x30, 0, 1, 6), (0x30, 1, 0, 2),
        (0x35, 0, 0, 1)]
    ∀ (kind : Byte) (body : List Byte),
      let inSet := fun offset low high => low ≤ (body.getD offset 0).toNat ∧ (body.getD offset 0).toNat ≤ high
      let ownerSet := kind = 0x13 ∧ (body.getD 2 0).toNat ≤ 1 ∧ body.drop 3 ≠ [0, 0]
      ((∀ e ∈ lengths, e.1 ≠ kind) → checkBody kind body = .error ⟨.unknownKind, 0, kind.setWidth 32⟩) ∧
      (∀ low high, (kind, low, high) ∈ lengths →
        (body.length < low ∨ high < body.length → checkBody kind body = .error ⟨.bodyLength, 0, BitVec.ofNat 32 body.length⟩) ∧
        (low ≤ body.length → body.length ≤ high →
          (ownerSet → checkBody kind body = .error ⟨.reservedSet, 0, 3⟩) ∧
          (¬ownerSet → ∀ offset least most, (kind, offset, least, most) ∈ sets → ¬inSet offset least most →
            (∀ offset' least' most', (kind, offset', least', most') ∈ sets → offset' < offset → inSet offset' least' most') →
              checkBody kind body = .error ⟨.enumValue, 0, BitVec.ofNat 32 offset⟩) ∧
          (¬ownerSet → (∀ offset least most, (kind, offset, least, most) ∈ sets → inSet offset least most) →
            ∃ r, checkBody kind body = .ok r ∧ requestKind r = kind))) ∧
      ∀ f, checkBody kind body = .error f → f.code.faultClass = .form ∧ f.subject = 0) ∧
  (∀ (s : State) (l : Link) (f : RawFrame) (r : Request), checkBody f.kind f.body = .ok r →
      s.checkAccepted l f = State.route (s.withLink l { s.link l with inbox := (s.link l).inbox ++ [⟨f.tag, r⟩] }) l) ∧
  (∀ (s : State) (l : Link) (f : RawFrame) (e : HubFault), checkBody f.kind f.body = .error e →
      s.checkAccepted l f =
        State.withReply
          { s with
            faults :=
              if s.session l = none then s.faults
              else setAt s.faults l { s.faultRecord l with occurred := setAt (s.faultRecord l).occurred (classIndex .form) true } }
          l ⟨if e.code = .unknownKind then 0xBF else f.kind + 0x80, f.tag, .fault, [1, e.code.byte] ++ le 2 e.subject ++ le 4 e.detail⟩)

/-! ### SES at arrival (R104, R105) -/

/-- R104, R105: what SES does with the oldest arrival of a link by the session's state: the status answers, the lines handed on to,
and the requests taken at arrival, each kind with its owning block; it then looks at the next arrival. That a request taken at arrival
stays at the head of the inbox until its own command, and holds back the link's next arrivals until then, is the model's reading
(log 4). -/
def Obligations.SesSortsArrivals : Prop :=
  ∀ (s : State) (l : Link) (w : Waiting) (rest : List Waiting), s.resetRequest = none → (s.link l).inbox = w :: rest →
    let opens : Request → Bool := fun | .openSession _ _ _ => true | _ => false
    let pings : Request → Bool := fun | .ping _ => true | _ => false
    let atArrival : Request → Bool := fun
      | .openSession _ _ _ | .closeSession | .ping _ | .querySession | .setPolicy _ _ | .clearFaults | .setForward _ | .yieldAdmin _
      | .configure _ _ _ | .hubReset _ | .queryHub => true
      | _ => false
    let atTheCells : Request → Bool := fun
      | .read _ | .write _ _ | .fetchAdd _ _ | .setCellClass _ _ _ | .reserve _ | .commit _ _ | .release | .watch _ | .unwatch _ => true
      | _ => false
    let atTheQueues : Request → Bool := fun
      | .createQueue _ _ _ _ _ _ _ | .destroyQueue _ | .bind _ | .unbind _ | .post _ _ _ | .take _ _ | .peek _ | .queryQueue _ => true
      | _ => false
    let answered := fun status =>
      (((s.withLink l { s.link l with inbox := rest }).withReply l ⟨requestKind w.request + 0x80, w.tag, status, []⟩).route l)
    (s.session l = none →
      (opens w.request = false → s.route l = answered .noSession) ∧
      (opens w.request = true → s.hubState = .resetting → s.route l = answered .resetting) ∧
      (opens w.request = true → s.hubState = .ready → s.route l = s)) ∧
    (∀ x, s.session l = some x → x.phase = .closing →
      (pings w.request = false → s.route l = answered .closing) ∧ (pings w.request = true → s.route l = s)) ∧
    (∀ x, s.session l = some x → x.phase = .attached →
      (atArrival w.request = true → s.route l = s) ∧
      (atTheCells w.request = true →
        s.route l =
          State.route { s.withLink l { s.link l with inbox := rest } with
            cellLines := setAt s.cellLines l (getAt s.cellLines l ++ [w]) } l) ∧
      (atTheQueues w.request = true →
        s.route l =
          State.route { s.withLink l { s.link l with inbox := rest } with
            queueLines := setAt s.queueLines l (getAt s.queueLines l ++ [w]) } l))

/-! ### RESYNC and the transmitters (R159 to R162) -/

/-- R161: RESYNC on a link with a session ends it abruptly with reason RESYNC and clears the link: tags, requests, replies, reports
and counters; SESSION_ENDED and RESYNC_DONE are pending; the frame being sent is kept. On a DETACHED link only the link is
cleared. While a reset request stands it is held, a second one merged into it, and its frame still renews the lease. The command is
the arrival of one whole valid frame of kind 0x7F, so that any receiver is in HUNT after it and a partial frame is dropped uncounted
(log 6, the model's reading). -/
def Obligations.ResyncClearsTheLinkOrIsHeld : Prop :=
  (∀ (s : State) (l : Link), s.rstn = true → s.settled = true → s.resetRequest = none →
      let cleared := fun ended : Option SessionEnded =>
        { s.link l with
          receiver := .hunt, tags := [], heldFrames := [], inbox := [], replies := [], counters := {}
          reports := { sessionEnded := ended, linkEntry := some .resyncDone } }
      (∀ x, s.session l = some x →
        ∃ t, exec (.resync l) s = .next t ∧ TornDown s t l ∧ t.cellLine l = [] ∧ t.queueLine l = [] ∧
          t.link l = cleared (some ⟨.resync, x.hostId, (s.link l).tags.length⟩)) ∧
      (s.session l = none →
        exec (.resync l) s =
          .next { s.withLink l (cleared none) with cellLines := setAt s.cellLines l [], queueLines := setAt s.queueLines l [] })) ∧
  (∀ (s : State) (l : Link) (r : ResetRequest), s.rstn = true → s.resetRequest = some r →
      ∃ t, exec (.resync l) s = .next t ∧
        t = { s.withLink l { s.link l with receiver := .hunt, heldResync := true } with sessions := t.sessions } ∧
        (∀ k, k ≠ l → t.session k = s.session k) ∧
        t.session l = (s.session l).map fun x =>
          { x with deadline := if x.period = 0 then none else some (s.clock + BitVec.ofNat 32 (x.period.toNat * 100)) })

/-- R157, R159: an IDLE transmitter with a reply waiting takes the oldest one, which leaves the queue, and sends its frame; a
transmitter that is SENDING does not choose. When the last byte of a frame has gone the transmitter is IDLE, and nothing else
changes, unless the frame is the HUB_RESET reply that a standing reset request waits for. A choice can fall inside the operation in
progress of another block (log 8). -/
def Obligations.TransmitterSendsRepliesFirst : Prop :=
  (∀ (s : State) (l : Link), s.settled = true ∨ s.inProgress = true →
      (∀ r rest, (s.link l).transmitter = .idle → (s.link l).replies = r :: rest →
        exec (.transmitterChoice l) s =
          .next (s.withLink l
            { s.link l with replies := rest, transmitter := .sending (frameBytes r.kind r.tag (statusByte r.status :: r.fields)) })) ∧
      (∀ frame, (s.link l).transmitter = .sending frame → exec (.transmitterChoice l) s = .next s)) ∧
  (∀ (s : State) (l : Link) (frame : List Byte), (s.link l).transmitter = .sending frame →
      (∀ r, s.resetRequest = some r → r.link = l → ¬(frame[2]? = some 0xB5 ∧ frame[4]? = some 0x00)) →
        exec (.frameSent l) s = .next (s.withLink l { s.link l with transmitter := .idle }))

/-- R159, rule 2, with R96, R118, R142, R146, R160: with no reply waiting a report is chosen by key, SESSION_ENDED before ROLE
before INTEGRITY before the link entry, and, when no CHANGED is pending, the ARRIVAL of the lowest queue last, each with its
content taken now and its entry gone from the set. With nothing pending nothing is sent. The choice can fall inside the operation in
progress of another block (log 8). (CHANGED has its own statement; that the
ARRIVAL entries are listed with queue indices rising is part of StepKeepsTheLinkUnits.) -/
def Obligations.ReportsAreSentInOrderOfKey : Prop :=
  (∀ (s : State) (l : Link), s.settled = true ∨ s.inProgress = true → (s.link l).transmitter = .idle → (s.link l).replies = [] →
      let u := s.link l
      let r := u.reports
      (∀ e, r.sessionEnded = some e →
        exec (.transmitterChoice l) s =
          .next (s.withLink l
            { u with
              reports := { r with sessionEnded := none }
              transmitter := .sending (frameBytes 0xC3 0 ([match e.reason with | .lease => 0 | .resync => 1] ++ le 2 e.hostId ++
                [BitVec.ofNat 8 e.discarded])) })) ∧
      (r.sessionEnded = none → r.role = true →
        exec (.transmitterChoice l) s =
          .next (s.withLink l
            { u with
              reports := { r with role := false }
              transmitter := .sending (frameBytes 0xC2 0
                [if s.admin = some l then 1 else 0, match s.admin with | some a => BitVec.ofNat 8 a.val | none => 0xFF]) })) ∧
      (r.sessionEnded = none → r.role = false → r.integrity = true →
        exec (.transmitterChoice l) s =
          .next { s.withLink l
            { u with
              reports := { r with integrity := false }
              transmitter := .sending (frameBytes 0xC4 0
                (le 2 (match s.latestCell with | some c => BitVec.ofNat 16 c.val | none => 0xFFFF) ++ [BitVec.ofNat 8 s.unreported])) }
            with unreported := 0 }) ∧
      (r.sessionEnded = none → r.role = false → r.integrity = false → ∀ e, r.linkEntry = some e →
        exec (.transmitterChoice l) s =
          .next (s.withLink l
            { u with
              counters := {}
              reports := { r with linkEntry := none }
              transmitter := .sending (frameBytes (match e with | .notice => 0xC5 | .resyncDone => 0xC6) 0
                [BitVec.ofNat 8 u.counters.noise, BitVec.ofNat 8 u.counters.lengthErrors, BitVec.ofNat 8 u.counters.crcErrors,
                  BitVec.ofNat 8 u.counters.partialTimeouts, BitVec.ofNat 8 u.counters.overruns,
                  BitVec.ofNat 8 u.counters.duplicateTags]) }))) ∧
  (∀ (s : State) (l : Link), s.settled = true ∨ s.inProgress = true → (s.link l).transmitter = .idle → (s.link l).replies = [] →
      (s.link l).reports.sessionEnded = none → (s.link l).reports.role = false → (s.link l).reports.integrity = false →
      (s.link l).reports.linkEntry = none → (∀ w ∈ s.watches, w.link = l → w.pending = none) →
        (∀ q d, q ∈ (s.link l).reports.arrivals → (∀ k ∈ (s.link l).reports.arrivals, q ≤ k) →
          (s.link l).reports.arrivals.Pairwise (fun a b => a < b) → s.queue q = some d →
          exec (.transmitterChoice l) s =
            .next (s.withLink l
              { s.link l with
                reports := { (s.link l).reports with arrivals := (s.link l).reports.arrivals.filter fun k => decide (k ≠ q) }
                transmitter := .sending (frameBytes 0xC1 0 ([BitVec.ofNat 8 q.val] ++ le 2 d.label ++
                  [BitVec.ofNat 8 d.messages.length, BitVec.ofNat 8 (d.messages.filter Message.urgent).length])) })) ∧
        ((s.link l).reports.arrivals = [] → exec (.transmitterChoice l) s = .next s))

/-- R159, rule 2, with R18, R70, R145: after those keys comes the CHANGED entry of the lowest cell. Its content is read now: a poisoned
cell is reported with value 0 and the mark set; a check failure found is a detection, counted, unreported and with an INTEGRITY
report pending for the admin, and the report goes out in that form; the record stays, no longer pending. Nothing else changes. That a
detection clears the failing check is the model's (log 15). -/
def Obligations.ChangedReportReadsTheCell : Prop :=
  ∀ (s : State) (l : Link) (w : Watch) (n : Nat), s.settled = true → (s.link l).transmitter = .idle → (s.link l).replies = [] →
    (s.link l).reports.sessionEnded = none → (s.link l).reports.role = false → (s.link l).reports.integrity = false →
    (s.link l).reports.linkEntry = none → w ∈ s.watches → w.link = l → w.pending = some n →
    (∀ v ∈ s.watches, v.link = l → v.cell = w.cell → v = w) →
    (∀ v ∈ s.watches, v.link = l → v.pending ≠ none → w.cell ≤ v.cell) →
      let x := s.cell w.cell
      let bad := x.poisoned || x.checkFails
      ∃ d t, exec (.transmitterChoice l) s = .next t ∧
        (x.poisoned = true ∨ x.checkFails = false → d = s) ∧
        (x.poisoned = false → x.checkFails = true → Detected s d w.cell) ∧
        t = { d.withLink l { d.link l with
            transmitter := .sending (frameBytes 0xC0 0 (le 2 (BitVec.ofNat 16 w.cell.val : Half) ++
              le 8 (if bad then 0 else x.value) ++ le 4 x.version ++ [BitVec.ofNat 8 n, if bad then 1 else 0])) } with
          watches := s.watches.map (fun v => if v.link = l ∧ v.cell = w.cell then { v with pending := none } else v) }

/-- R147 to R149, R162: when the admin link's transmitter completes the HUB_RESET reply the reset begins: every block is cleared,
the cells, configuration and clock by the scope. The model reads the rules so that a held RESYNC then taken leaves the receiver as it
is (log 18), the gap of a partial frame goes on from the time already gone when the clock is set to 0 (log 24), and the cells read as
scrubbed from the beginning of a scrub (log 20). -/
def Obligations.ResetBeginsWhenItsReplyIsSent : Prop :=
  ∀ (s : State) (l : Link) (scope : Scope) (tag : Tag), s.resetRequest = some ⟨scope, l⟩ →
    (s.link l).transmitter = .sending (frameBytes 0xB5 tag [0x00, scopeByte scope]) →
      ∃ t, exec (.frameSent l) s = .next t ∧ ResetBegun (s.withLink l { s.link l with transmitter := .idle }) t scope

/-! ### Sessions (R106 to R118) -/

/-- R107, R139, R141: an OPEN on a DETACHED link of a READY hub, with a host identity that is not 0 and not in use and a period of
at most 255, is accepted: the session, the cleared reservation entry and fault record, the vacant role if the session is
eligible, and the OK reply. -/
def Obligations.AcceptedOpenAttachesTheSession : Prop :=
  ∀ (s : State) (l : Link) (tag : Tag) (host : Half) (eligible : Bool) (period : Half),
    s.takesArrived l tag (.openSession host eligible period) → s.session l = none → s.hubState = .ready → host ≠ 0 →
    period.toNat ≤ 255 → (∀ k x, k ≠ l → s.session k = some x → x.hostId ≠ host) →
      let gains := eligible && decide (s.admin = none)
      let admin := if gains then some l else s.admin
      let u := s.link l
      let p : Byte := period.setWidth 8
      let deadline := if p = 0 then none else some (s.clock + BitVec.ofNat 32 (p.toNat * 100))
      let unit : LinkUnit :=
        { u with
          inbox := u.inbox.drop 1
          reports := { u.reports with
            role := u.reports.role || gains, integrity := u.reports.integrity || (gains && decide (0 < s.unreported)) } }
      exec (.openSession l tag host eligible period) s =
        .next (State.route { s with
          sessions := setAt s.sessions l (some ⟨.attached, host, eligible, p, deadline⟩)
          entries := setAt s.entries l {}
          faults := setAt s.faults l {}
          admin := admin
          links := setAt s.links l
            (unit.answered ⟨0x81, tag, .ok, [BitVec.ofNat 8 l.val, if admin = some l then 1 else 0, p]⟩) } l)

/-- R106, R121, R128: the OPENs that are turned away, in the order of the checks: on an ATTACHED link (dealt with by its session's
policy), with host id 0, with a period above 255 (both answered as under REFUSE, with no flag set), with an identity in use. -/
def Obligations.RefusedOpenChangesNoSession : Prop :=
  ∀ (s : State) (l : Link) (tag : Tag) (host : Half) (eligible : Bool) (period : Half),
    s.takesArrived l tag (.openSession host eligible period) →
      let taken := s.arrivalTaken l
      let result := exec (.openSession l tag host eligible period) s
      let range := fun code detail =>
        (taken.withReply l ⟨0x81, tag, .fault, [2, code] ++ le 2 (BitVec.ofNat 16 l.val : Half) ++ le 4 (detail : Word)⟩).route l
      (∀ x, s.session l = some x →
        result = .next ((taken.raise ⟨l, tag, 0x01, [0, 0, 0]⟩
          ⟨.sessionOpen, BitVec.ofNat 16 l.val, x.hostId.setWidth 32⟩ none).route l)) ∧
      (s.session l = none → host = 0 → result = .next (range 0x23 0)) ∧
      (s.session l = none → host ≠ 0 → 255 < period.toNat → result = .next (range 0x24 (period.setWidth 32))) ∧
      (s.session l = none → host ≠ 0 → period.toNat ≤ 255 → ∀ k x, k ≠ l → s.session k = some x → x.hostId = host →
        (∀ j y, j < k → j ≠ l → s.session j = some y → y.hostId ≠ host) →
          result = .next ((taken.withReply l ⟨0x81, tag, .idInUse, [BitVec.ofNat 8 k.val]⟩).route l))

/-- R109, R138, R141: a CLOSE makes an ATTACHED session CLOSING; the CLOSE stays in flight unanswered; the role, if the session held it,
goes to the election's winner with its ROLE report, the closing link's INTEGRITY report is withdrawn, and nothing else changes. With
no other request in flight the clean teardown is then due; that it is run before the next event, and not in this one, is log 8. -/
def Obligations.CloseMakesTheSessionClosing : Prop :=
  ∀ (s : State) (l : Link) (tag : Tag) (x : Session), s.takesArrived l tag .closeSession → s.session l = some x →
    ∃ t, exec (.closeSession l tag) s = .next (t.route l) ∧
      t = { s with sessions := setAt s.sessions l (some { x with phase := .closing }), links := t.links, admin := t.admin } ∧
      t.link l = { s.link l with
        inbox := (s.link l).inbox.drop 1
        reports := { (s.link l).reports with integrity := (s.link l).reports.integrity && decide (s.admin ≠ some l) } } ∧
      (s.admin = some l → Elected s t l) ∧ (s.admin ≠ some l → t.admin = s.admin ∧ ∀ k, k ≠ l → t.link k = s.link k)

/-- R111, R112, R150, R171: PING, QUERY_SESSION and QUERY_HUB answer OK with the state as it stands, laid out as the tables of the
manual have it, and change nothing else. -/
def Obligations.QueriesReportTheState : Prop :=
  ∀ (s : State) (l : Link) (tag : Tag),
    (∀ echo, s.takesArrived l tag (.ping echo) →
      exec (.ping l tag echo) s =
        .next (((s.arrivalTaken l).withReply l
          ⟨0x83, tag, .ok, le 4 s.clock ++ [BitVec.ofNat 8 (s.link l).tags.length] ++ echo⟩).route l)) ∧
    (∀ x, s.takesArrived l tag .querySession → s.session l = some x →
      let e := s.entry l
      let f := s.faultRecord l
      let state : Byte := match e.reservation with | .none => 0 | .armed _ _ => 1 | .held _ _ => 2 | .broken _ => 3
      let cell : Half := match e.reservation with
        | .none => 0xFFFF | .armed c _ => BitVec.ofNat 16 c.val | .held c _ => BitVec.ofNat 16 c.val | .broken c => BitVec.ofNat 16 c.val
      let version : Word := match e.reservation with | .armed _ v => v | .held _ v => v | _ => 0
      exec (.querySession l tag) s =
        .next (((s.arrivalTaken l).withReply l
          ⟨0x84, tag, .ok,
            [BitVec.ofNat 8 l.val] ++ le 2 x.hostId ++ [if x.eligible then 1 else 0, x.period] ++
              le 2 (BitVec.ofNat 16 (x.period.toNat * 100)) ++
              [BitVec.ofNat 8 (s.link l).tags.length, if s.admin = some l then 1 else 0, state] ++ le 2 cell ++ le 4 version ++
              [BitVec.ofNat 8 e.failures] ++ f.policies.toList.map policyByte ++
              [occurredByte f.occurred, if f.lost then 1 else 0,
                match f.designation with | some q => BitVec.ofNat 8 q.val | none => 0xFF]⟩).route l)) ∧
    (s.takesArrived l tag .queryHub →
      let k := s.counters
      exec (.queryHub l tag) s =
        .next (((s.arrivalTaken l).withReply l
          ⟨0xB6, tag, .ok,
            ([0x08, 0x24, 0x01] : List Byte) ++ le 2 s.config.label ++
              [match s.admin with | some a => BitVec.ofNat 8 a.val | none => 0xFF, BitVec.ofNat 8 s.config.threshold,
                BitVec.ofNat 8 s.config.limit] ++
              le 4 s.modifications ++ le 4 k.commits ++ le 4 k.conflicts ++ le 4 k.holdsGranted ++ le 4 k.holdsExpired ++
              le 4 k.deferrals ++ [BitVec.ofNat 8 k.highWater] ++ le 2 (BitVec.ofNat 16 (256 - s.slotsUsed)) ++ le 4 k.detections ++
              le 2 (match s.latestCell with | some c => BitVec.ofNat 16 c.val | none => 0xFFFF) ++ le 4 s.clock⟩).route l))

/-- R114, R116, R118: when the hub clock reaches a session's lease deadline the session is torn down abruptly: its requests are
discarded, its replies and reports lost, and SESSION_ENDED with reason LEASE is pending, with a LINK_NOTICE if a link counter is
above 0. -/
def Obligations.LeaseExpiryTearsTheSessionDown : Prop :=
  ∀ (s : State) (l : Link) (x : Session) (d : Clock), s.settled = true → s.resetRequest = none → s.session l = some x →
    x.deadline = some d → (s.clock - d).toNat < 2 ^ 31 →
      ∃ t, exec (.leaseExpiry l) s = .next t ∧ TornDown s t l ∧ t.cellLine l = [] ∧ t.queueLine l = [] ∧
        t.link l =
          { s.link l with
            tags := [], heldFrames := [], inbox := [], replies := []
            reports :=
              { sessionEnded := some ⟨.lease, x.hostId, (s.link l).tags.length⟩
                linkEntry := if (s.link l).counters = {} then none else some .notice } }

/-- R110, R117: when the CLOSE is the one request left in flight of a CLOSING session, the clean teardown runs: the effects of a
teardown, the session's reports withdrawn, and the CLOSE's OK reply with the host id behind the replies already there. -/
def Obligations.CleanTeardownAnswersTheClose : Prop :=
  ∀ (s : State) (l : Link) (x : Session) (tag : Tag), s.resetRequest = none → s.inProgress = false → s.session l = some x →
    x.phase = .closing → (s.link l).tags = [tag] →
      ∃ t, exec (.cleanTeardown l) s = .next t ∧ TornDown s t l ∧ t.cellLine l = s.cellLine l ∧ t.queueLine l = s.queueLine l ∧
        t.link l =
          { s.link l with
            tags := []
            replies := (s.link l).replies ++ [⟨0x82, tag, .ok, le 2 x.hostId⟩]
            reports :=
              { (s.link l).reports with
                role := false, integrity := false
                arrivals := (s.link l).reports.arrivals.filter fun q => !decide (((s.queue q).bind Queue.owner) = some l) } }

/-! ### The cell store (R5 to R17, R44) -/

/-- R5, R6, R22, R26, R65, R121: a request of the cell-store arbiter that names a cell above 1023 takes a RANGE fault CELL_INDEX
with the index as its subject before any other check; WRITE, FETCH_ADD, RESERVE and COMMIT without write access take an ACCESS
fault CELL_CLASS, its detail the owner host id and the class, ahead of hold, poison and reservation. Who has write access is
decided by the class. -/
def Obligations.CellChecksFaultInOrder : Prop :=
  (∀ (s : State) (l : Link) (c : CellIx), s.attached l = true →
      ((s.cell c).access = .openAll → s.hasWriteAccess l c = true) ∧
      ((s.cell c).access = .adminWrite → (s.hasWriteAccess l c = true ↔ s.admin = some l)) ∧
      ∀ h, (s.cell c).access = .owned h → (s.hasWriteAccess l c = true ↔ s.hostId l = h)) ∧
  (∀ (s : State) (l : Link) (tag : Tag) (r : Request) (cell : Half), cellIndexOf r = some cell → 1023 < cell.toNat →
      s.takesCell l tag r →
        exec (commandOf l tag r) s = .next ((s.cellTaken l).raise (faulting s l tag r) ⟨.cellIndex, cell, 0⟩ none)) ∧
  (∀ (s : State) (l : Link) (tag : Tag) (c : CellIx) (v : Quad) (r : Request),
      r = .write (cellSubject c) v ∨ r = .fetchAdd (cellSubject c) v ∨ r = .reserve (cellSubject c) ∨ r = .commit (cellSubject c) v →
      s.takesCell l tag r → s.hasWriteAccess l c = false →
        exec (commandOf l tag r) s =
          .next ((s.cellTaken l).raise (faulting s l tag r)
            ⟨.cellClass, cellSubject c,
              match (s.cell c).access with
              | .openAll => 0
              | .adminWrite => 0x00010000
              | .owned h => 0x00020000 + h.setWidth 32⟩ none))

/-- R7, R15, R16, R145: READ of a cell whose value is good returns its value and version with status OK, also when another session
holds the cell, and changes nothing else. One that meets poison takes an INTEGRITY fault POISONED; one that finds a check
failure poisons the cell, counts the detection, makes an INTEGRITY report pending for the admin, and takes a fault DETECTED;
value, version and class stay. That a detection clears the failing check is the model's (log 15). -/
def Obligations.ReadReturnsTheCellOrFaults : Prop :=
  (∀ (s : State) (l : Link) (tag : Tag) (c : CellIx), s.takesCell l tag (.read (cellSubject c)) →
      (s.cell c).poisoned = false → (s.cell c).checkFails = false →
        exec (.read l tag (cellSubject c)) s =
          .next ((s.cellTaken l).withReply l ⟨0x90, tag, .ok, le 8 (s.cell c).value ++ le 4 (s.cell c).version⟩)) ∧
  (∀ (s : State) (l : Link) (tag : Tag) (c : CellIx), s.takesCell l tag (.read (cellSubject c)) →
      ((s.cell c).poisoned = true →
        exec (.read l tag (cellSubject c)) s =
          .next ((s.cellTaken l).raise (faulting s l tag (.read (cellSubject c))) ⟨.poisoned, cellSubject c, (s.cell c).version⟩ none)) ∧
      ((s.cell c).poisoned = false → (s.cell c).checkFails = true →
        ∃ d : State, exec (.read l tag (cellSubject c)) s = .next (d.raise (faulting s l tag (.read (cellSubject c)))
            ⟨.detected, cellSubject c, (s.cell c).version⟩ none) ∧
          d.cell c = { s.cell c with poisoned := true, checkFails := false } ∧ (∀ k, k ≠ c → d.cell k = s.cell k) ∧
          d = { s.cellTaken l with
            cells := d.cells
            counters := { s.counters with
              detections := if s.counters.detections = 0xFFFFFFFF then 0xFFFFFFFF else s.counters.detections + 1 }
            unreported := if s.unreported < 255 then s.unreported + 1 else s.unreported
            latestCell := some c
            links := match s.admin with
              | some a => setAt s.links a { s.link a with reports := { (s.link a).reports with integrity := true } }
              | none => s.links }))

/-- R8, R11 to R13, R33, R68: a WRITE with write access to a cell that no other session holds stores the value with all the effects
of a modification, whatever the old value's check or poison, and answers OK with the new version. The holder's own WRITE ends
its hold. -/
def Obligations.WriteStoresTheValue : Prop :=
  ∀ (s : State) (l : Link) (tag : Tag) (c : CellIx) (v : Quad), s.takesCell l tag (.write (cellSubject c) v) →
    s.hasWriteAccess l c = true → s.heldByOther l c = false →
      ∃ t, exec (.write l tag (cellSubject c) v) s = .next t ∧ Modification s t c v l none ∧
        (s.holderOf c = none → HoldsKept s t) ∧
        (s.holderOf c = some l → (∃ w, (s.entry l).reservation = .held c w) → HoldEnds s t l c) ∧
        t = { (s.cellTaken l).withReply l ⟨0x91, tag, .ok, le 4 ((s.cell c).version + 1) ++ [0]⟩ with
          cells := t.cells, entries := t.entries, holds := t.holds, drains := t.drains, watches := t.watches
          modifications := t.modifications }

/-- R9, R11 to R13: a FETCH_ADD with write access to a cell that no other session holds, its value good, adds the delta modulo 2^64
as a modification, and answers OK with the value before and the new version. One that meets poison or finds a check failure takes an
INTEGRITY fault and leaves the value as it was (R15, R16). That a detection clears the failing check is the model's (log 15). -/
def Obligations.FetchAddAddsTheDelta : Prop :=
  (∀ (s : State) (l : Link) (tag : Tag) (c : CellIx) (delta : Quad), s.takesCell l tag (.fetchAdd (cellSubject c) delta) →
    s.hasWriteAccess l c = true → s.heldByOther l c = false → (s.cell c).poisoned = true ∨ (s.cell c).checkFails = true →
      ∃ d code, MeetsBadValue (s.cellTaken l) d c code ∧
        exec (.fetchAdd l tag (cellSubject c) delta) s =
          .next (d.raise (faulting s l tag (.fetchAdd (cellSubject c) delta)) ⟨code, cellSubject c, (s.cell c).version⟩ none)) ∧
  ∀ (s : State) (l : Link) (tag : Tag) (c : CellIx) (delta : Quad), s.takesCell l tag (.fetchAdd (cellSubject c) delta) →
    s.hasWriteAccess l c = true → s.heldByOther l c = false → (s.cell c).poisoned = false → (s.cell c).checkFails = false →
      ∃ t, exec (.fetchAdd l tag (cellSubject c) delta) s = .next t ∧ Modification s t c ((s.cell c).value + delta) l none ∧
        (s.holderOf c = none → HoldsKept s t) ∧
        (s.holderOf c = some l → (∃ w, (s.entry l).reservation = .held c w) → HoldEnds s t l c) ∧
        t = { (s.cellTaken l).withReply l
            ⟨0x92, tag, .ok, le 8 (s.cell c).value ++ le 4 ((s.cell c).version + 1) ++ [0]⟩ with
          cells := t.cells, entries := t.entries, holds := t.holds, drains := t.drains, watches := t.watches
          modifications := t.modifications }

/-- R10: SET_CELL_CLASS by the admin sets the class, and the owner with OWNED, and answers OK with the class and owner before; the
value, version, poison and everything else stay. With OWNED and owner host id 0 it takes a RANGE fault HOST_ID, and else, from a session
that is not admin, an ACCESS fault NOT_ADMIN (R5). -/
def Obligations.SetCellClassChangesOnlyTheClass : Prop :=
  (∀ (s : State) (l : Link) (tag : Tag) (c : CellIx), s.takesCell l tag (.setCellClass (cellSubject c) .owned 0) →
    exec (.setCellClass l tag (cellSubject c) .owned 0) s =
      .next ((s.cellTaken l).raise (faulting s l tag (.setCellClass (cellSubject c) .owned 0)) ⟨.hostId, cellSubject c, 0⟩ none)) ∧
  ∀ (s : State) (l : Link) (tag : Tag) (c : CellIx) (cls : CellClass) (owner : Half),
    s.takesCell l tag (.setCellClass (cellSubject c) cls owner) → (cls = .owned → owner ≠ 0) →
      (s.admin = some l →
        ∃ t, exec (.setCellClass l tag (cellSubject c) cls owner) s = .next t ∧
          t.cell c = { s.cell c with access := match cls with | .openAll => .openAll | .adminWrite => .adminWrite | .owned => .owned owner } ∧
          (∀ k, k ≠ c → t.cell k = s.cell k) ∧
          t = { (s.cellTaken l).withReply l ⟨0x93, tag, .ok,
              match (s.cell c).access with
              | .openAll => 0 :: le 2 (0 : Half)
              | .adminWrite => 1 :: le 2 (0 : Half)
              | .owned h => 2 :: le 2 h⟩ with
            cells := t.cells }) ∧
      (s.admin ≠ some l →
        exec (.setCellClass l tag (cellSubject c) cls owner) s =
          .next ((s.cellTaken l).raise (faulting s l tag (.setCellClass (cellSubject c) cls owner))
            ⟨.notAdmin, cellSubject c, 0⟩ none))

/-- R44, R45: a WRITE, COMMIT or FETCH_ADD with write access to a cell that another session holds is appended to the DWQ, if it has
room, and counted; no reply is placed, its tag stays in flight, and nothing else changes. -/
def Obligations.HeldCellDefersModifications : Prop :=
  ∀ (s : State) (l : Link) (tag : Tag) (c : CellIx) (v : Quad) (k : Link) (r : Request) (kind : DwqKind),
    (r = .write (cellSubject c) v ∧ kind = .write) ∨ (r = .commit (cellSubject c) v ∧ kind = .commit) ∨
      (r = .fetchAdd (cellSubject c) v ∧ kind = .fetchAdd) →
    s.takesCell l tag r → s.hasWriteAccess l c = true → s.holderOf c = some k → k ≠ l → s.dwq.length < 32 →
      exec (commandOf l tag r) s =
        .next { s.cellTaken l with
          dwq := s.dwq ++ [⟨l, tag, kind, c, v⟩]
          counters := { s.counters with
            deferrals := s.counters.deferrals + 1
            highWater := if s.counters.highWater < s.dwq.length + 1 then s.dwq.length + 1 else s.counters.highWater } }

/-! ### Reservations and holds (R19 to R36, R43, R47 to R56) -/

/-- R22 to R25, R43: a RESERVE that passes its checks arms the session's entry at the cell's version, the failure count kept, and
answers OK with the value and version, the held-elsewhere mark when another session holds the cell, and the count; a hold the
entry owned ends first. It earns a hold when the threshold is not 0, the failure count has reached it and no other session holds
the cell: the entry is HELD with failure count 0, a STANDING record with the hold limit's deadline is made and counted, and the
hold-granted mark is set. A RESERVE that meets poison or finds a check failure takes an INTEGRITY fault, and the entry stays as it
was (R15, R16, R22). That a detection clears the failing check is the model's (log 15). -/
def Obligations.ReserveArmsOrEarnsAHold : Prop :=
  (∀ (s : State) (l : Link) (tag : Tag) (c : CellIx), s.takesCell l tag (.reserve (cellSubject c)) → s.hasWriteAccess l c = true →
      (s.cell c).poisoned = true ∨ (s.cell c).checkFails = true →
        ∃ d code, MeetsBadValue (s.cellTaken l) d c code ∧
          exec (.reserve l tag (cellSubject c)) s =
            .next (d.raise (faulting s l tag (.reserve (cellSubject c))) ⟨code, cellSubject c, (s.cell c).version⟩ none)) ∧
  (∀ (s : State) (l : Link) (tag : Tag) (c : CellIx), s.takesCell l tag (.reserve (cellSubject c)) → s.hasWriteAccess l c = true →
      (s.cell c).poisoned = false → (s.cell c).checkFails = false →
      s.config.threshold = 0 ∨ (s.entry l).failures < s.config.threshold ∨
        (s.heldByOther l c = true ∧ ∀ k v, (s.entry l).reservation ≠ .held k v) →
        ∃ t, exec (.reserve l tag (cellSubject c)) s = .next t ∧
          ((∀ k v, (s.entry l).reservation ≠ .held k v) → HoldsKept s t) ∧
          (∀ k v, (s.entry l).reservation = .held k v → s.holds.any (isHoldOf l k) = true → HoldEnds s t l k) ∧
          t = { (s.cellTaken l).withReply l ⟨0x98, tag, .ok, le 8 (s.cell c).value ++ le 4 (s.cell c).version ++
              [if t.heldByOther l c then 2 else 0, BitVec.ofNat 8 (s.entry l).failures]⟩ with
            entries := setAt s.entries l ⟨.armed c (s.cell c).version, (s.entry l).failures⟩
            holds := t.holds, drains := t.drains }) ∧
  (∀ (s : State) (l : Link) (tag : Tag) (c : CellIx), s.takesCell l tag (.reserve (cellSubject c)) → s.hasWriteAccess l c = true →
      (s.cell c).poisoned = false → (s.cell c).checkFails = false → s.config.threshold ≠ 0 →
      s.config.threshold ≤ (s.entry l).failures → s.heldByOther l c = false → (∀ k v, (s.entry l).reservation ≠ .held k v) →
        exec (.reserve l tag (cellSubject c)) s =
          .next { (s.cellTaken l).withReply l
              ⟨0x98, tag, .ok, le 8 (s.cell c).value ++ le 4 (s.cell c).version ++ [1, 0]⟩ with
            entries := setAt s.entries l ⟨.held c (s.cell c).version, 0⟩
            holds := s.holds ++ [⟨c, l, .standing (s.clock + BitVec.ofNat 32 s.config.limit)⟩]
            counters := { s.counters with holdsGranted := s.counters.holdsGranted + 1 } })

/-- R26 to R28, R30, R36: a COMMIT whose session's entry is ARMED or HELD on the cell, the cell's value good, stores the value as a
modification, consumes the entry, counts the commit and answers OK with the new version and failure count 0; a HELD entry ends
its hold. With such an entry and a value that is poisoned or fails its check it takes an INTEGRITY fault, the entry goes to NONE with
its failure count kept, and a HELD entry ends its hold (R15, R17). With the entry NONE, or on another cell, it takes a STATE fault
whose detail is the entry's state and cell, and nothing but the fault's own effects happens. (BROKEN has its own statement.) That a
detection clears the failing check is the model's (log 15). -/
def Obligations.CommitIsJudgedByTheEntry : Prop :=
  (∀ (s : State) (l : Link) (tag : Tag) (c : CellIx) (v : Quad) (w : Word), s.takesCell l tag (.commit (cellSubject c) v) →
      s.hasWriteAccess l c = true → s.heldByOther l c = false → (s.cell c).poisoned = true ∨ (s.cell c).checkFails = true →
      (s.entry l).reservation = .armed c w ∨ (s.entry l).reservation = .held c w →
        ∃ d e code, MeetsBadValue (s.cellTaken l) d c code ∧ EntryLost d e l ∧
          exec (.commit l tag (cellSubject c) v) s =
            .next (e.raise (faulting s l tag (.commit (cellSubject c) v)) ⟨code, cellSubject c, (s.cell c).version⟩ none)) ∧
  (∀ (s : State) (l : Link) (tag : Tag) (c : CellIx) (v : Quad) (w : Word), s.takesCell l tag (.commit (cellSubject c) v) →
      s.hasWriteAccess l c = true → s.heldByOther l c = false → (s.cell c).poisoned = false → (s.cell c).checkFails = false →
      (s.entry l).reservation = .armed c w ∨ (s.entry l).reservation = .held c w →
        ∃ t, exec (.commit l tag (cellSubject c) v) s = .next t ∧ Modification s t c v l (some l) ∧
          ((s.entry l).reservation = .armed c w → s.holderOf c = none → HoldsKept s t) ∧
          ((s.entry l).reservation = .held c w → s.holderOf c = some l → HoldEnds s t l c) ∧
          t = { (s.cellTaken l).withReply l ⟨0x99, tag, .ok, le 4 ((s.cell c).version + 1) ++ [0, 0]⟩ with
            cells := t.cells, entries := t.entries, holds := t.holds, drains := t.drains, watches := t.watches
            modifications := t.modifications
            counters := { s.counters with commits := s.counters.commits + 1 } }) ∧
  (∀ (s : State) (l : Link) (tag : Tag) (c : CellIx) (v : Quad), s.takesCell l tag (.commit (cellSubject c) v) →
      s.hasWriteAccess l c = true → s.heldByOther l c = false →
        let fault := fun code detail => (s.cellTaken l).raise (faulting s l tag (.commit (cellSubject c) v)) ⟨code, cellSubject c, detail⟩ none
        let place := fun (k : CellIx) => (BitVec.ofNat 32 k.val : Word) <<< 16
        ((s.entry l).reservation = .none →
          exec (.commit l tag (cellSubject c) v) s = .next (fault .noReservation 0xFFFF0000)) ∧
        (∀ k w, k ≠ c → (s.entry l).reservation = .armed k w →
          exec (.commit l tag (cellSubject c) v) s = .next (fault .otherCell (place k + 1))) ∧
        (∀ k w, k ≠ c → (s.entry l).reservation = .held k w →
          exec (.commit l tag (cellSubject c) v) s = .next (fault .otherCell (place k + 2))) ∧
        (∀ k, k ≠ c → (s.entry l).reservation = .broken k →
          exec (.commit l tag (cellSubject c) v) s = .next (fault .otherCell (place k + 3))))

/-- R29, R35, R36: a COMMIT whose session's entry is BROKEN on the cell is answered CONFLICT, directly and by a drain: no
modification, the entry NONE, the failure count one higher up to 15, the conflict counted, and the cell's current version and
the count in the reply; no fault is raised. -/
def Obligations.BrokenCommitConflicts : Prop :=
  (∀ (s : State) (l : Link) (tag : Tag) (c : CellIx) (v : Quad) (deferred : Bool) (resume : Option CellIx),
    (s.entry l).reservation = .broken c →
      let failures := if (s.entry l).failures < 15 then (s.entry l).failures + 1 else (s.entry l).failures
      s.judgeCommit l tag c v deferred resume =
        { s.withReply l ⟨0x99, tag, .conflict, le 4 (s.cell c).version ++ [BitVec.ofNat 8 failures, if deferred then 1 else 0]⟩ with
          entries := setAt s.entries l ⟨.none, failures⟩
          counters := { s.counters with conflicts := s.counters.conflicts + 1 } }) ∧
    ∀ (s : State) (l : Link) (tag : Tag) (c : CellIx) (v : Quad), s.takesCell l tag (.commit (cellSubject c) v) →
      s.hasWriteAccess l c = true → s.heldByOther l c = false → (s.entry l).reservation = .broken c →
        exec (.commit l tag (cellSubject c) v) s = .next ((s.cellTaken l).judgeCommit l tag c v false none)

/-- R32: RELEASE always succeeds: the entry goes to NONE from any state, its failure count kept, a hold it owned ends, and the reply
carries the state and cell before and the count. -/
def Obligations.ReleaseEndsTheReservation : Prop :=
  ∀ (s : State) (l : Link) (tag : Tag), s.takesInOrder l tag .release →
    let e := s.entry l
    let state : Byte := match e.reservation with | .none => 0 | .armed _ _ => 1 | .held _ _ => 2 | .broken _ => 3
    let cell : Half := match e.reservation with
      | .none => 0xFFFF | .armed c _ => BitVec.ofNat 16 c.val | .held c _ => BitVec.ofNat 16 c.val | .broken c => BitVec.ofNat 16 c.val
    ∃ t, exec (.release l tag) s = .next t ∧
      ((∀ c v, e.reservation ≠ .held c v) → HoldsKept s t) ∧
      (∀ c v, e.reservation = .held c v → s.holds.any (isHoldOf l c) = true → HoldEnds s t l c) ∧
      t = { (s.orderTaken l).withReply l ⟨0x9A, tag, .ok, [state] ++ le 2 cell ++ [BitVec.ofNat 8 e.failures]⟩ with
        entries := setAt s.entries l ⟨.none, e.failures⟩, holds := t.holds, drains := t.drains }

/-- R4, R31, R54 to R56, R80: the oldest drain is taken: the cell's ENDED record goes; with no DWQ entry for the cell nothing else
happens; else the oldest entry for the cell is removed and judged in the state so far, and the drain goes on with the rest unless that
entry's forward post is pending. When the post has been taken (ForwardPostCompletesTheRequest) the drain goes on at the next DRAIN; that
this is a command of its own, so that queue operations can come between, is the model's (log 8). With write access a deferred
WRITE is applied; a FETCH_ADD is applied, or takes an INTEGRITY fault on a value that is poisoned or fails its check; a COMMIT is judged
by its session's entry as it now stands: ARMED on the cell a success, or with such a value an INTEGRITY fault with the entry lost,
BROKEN a CONFLICT (BrokenCommitConflicts), NONE or on another cell a STATE fault. An entry without access takes its ACCESS fault. Every
reply but a FAULT has the deferred mark. That a detection clears the failing check is the model's (log 15). -/
def Obligations.DrainJudgesEntriesInOrder : Prop :=
  (∀ (s : State) (c : CellIx) (rest : List CellIx), s.settled = true → s.resetRequest = none → s.drains = c :: rest →
    exec .drain s =
      .next (State.drainRest { s with drains := rest, holds := s.holds.filter fun h => !(decide (h.cell = c) && !h.stands) } c)) ∧
    (∀ (s : State) (c : CellIx), s.resetRequest = none → s.forwardPosts = [] → s.draining = some c →
      exec .drain s = .next (State.drainRest { s with draining := none } c)) ∧
    (∀ (s : State) (c : CellIx), (∀ e ∈ s.dwq, e.cell ≠ c) → s.drainRest c = s) ∧
    (∀ (s : State) (c : CellIx) (before after : List DwqEntry) (e : DwqEntry), s.forwardPosts = [] → s.dwq = before ++ e :: after →
      (∀ b ∈ before, b.cell ≠ c) → e.cell = c →
        let t := State.judgeDeferred { s with dwq := before ++ after } e
        s.drainRest c = if t.forwardPosts = [] then t.drainRest c else t) ∧
    ∀ (s : State) (e : DwqEntry),
      (e.kind = .write → s.hasWriteAccess e.link e.cell = true → s.holderOf e.cell = none →
        ∃ t, s.judgeDeferred e = t ∧ Modification s t e.cell e.operand e.link none ∧ HoldsKept s t ∧
          t = { s.withReply e.link ⟨0x91, e.tag, .ok, le 4 ((s.cell e.cell).version + 1) ++ [1]⟩ with
            cells := t.cells, entries := t.entries, watches := t.watches, modifications := t.modifications }) ∧
      (e.kind = .fetchAdd → s.hasWriteAccess e.link e.cell = true → s.holderOf e.cell = none → (s.cell e.cell).poisoned = false →
        (s.cell e.cell).checkFails = false →
          ∃ t, s.judgeDeferred e = t ∧ Modification s t e.cell ((s.cell e.cell).value + e.operand) e.link none ∧ HoldsKept s t ∧
            t = { s.withReply e.link
                ⟨0x92, e.tag, .ok, le 8 (s.cell e.cell).value ++ le 4 ((s.cell e.cell).version + 1) ++ [1]⟩ with
              cells := t.cells, entries := t.entries, watches := t.watches, modifications := t.modifications }) ∧
      (e.kind = .fetchAdd → s.hasWriteAccess e.link e.cell = true →
        (s.cell e.cell).poisoned = true ∨ (s.cell e.cell).checkFails = true →
          ∃ d code, MeetsBadValue s d e.cell code ∧
            s.judgeDeferred e = d.raise ⟨e.link, e.tag, 0x12, List.replicate 12 0 ++ [1]⟩
              ⟨code, cellSubject e.cell, (s.cell e.cell).version⟩ (some e.cell)) ∧
      (e.kind = .commit → s.hasWriteAccess e.link e.cell = true →
        let o : Faulting := ⟨e.link, e.tag, 0x19, [0, 0, 0, 0, 0, 1]⟩
        let r := (s.entry e.link).reservation
        let place := fun (k : CellIx) => (BitVec.ofNat 32 k.val : Word) <<< 16
        s.judgeDeferred e = s.judgeCommit e.link e.tag e.cell e.operand true (some e.cell) ∧
        (∀ w, r = .armed e.cell w → s.holderOf e.cell = none → (s.cell e.cell).poisoned = false → (s.cell e.cell).checkFails = false →
          ∃ t, s.judgeDeferred e = t ∧ Modification s t e.cell e.operand e.link (some e.link) ∧ HoldsKept s t ∧
            t = { s.withReply e.link ⟨0x99, e.tag, .ok, le 4 ((s.cell e.cell).version + 1) ++ [0, 1]⟩ with
              cells := t.cells, entries := t.entries, watches := t.watches, modifications := t.modifications
              counters := { s.counters with commits := s.counters.commits + 1 } }) ∧
        (∀ w, r = .armed e.cell w → (s.cell e.cell).poisoned = true ∨ (s.cell e.cell).checkFails = true →
          ∃ d t code, MeetsBadValue s d e.cell code ∧ EntryLost d t e.link ∧
            s.judgeDeferred e = t.raise o ⟨code, cellSubject e.cell, (s.cell e.cell).version⟩ (some e.cell)) ∧
        (r = .none → s.judgeDeferred e = s.raise o ⟨.noReservation, cellSubject e.cell, 0xFFFF0000⟩ (some e.cell)) ∧
        (∀ k, k ≠ e.cell →
          (∀ w, r = .armed k w → s.judgeDeferred e = s.raise o ⟨.otherCell, cellSubject e.cell, place k + 1⟩ (some e.cell)) ∧
          (∀ w, r = .held k w → s.judgeDeferred e = s.raise o ⟨.otherCell, cellSubject e.cell, place k + 2⟩ (some e.cell)) ∧
          (r = .broken k → s.judgeDeferred e = s.raise o ⟨.otherCell, cellSubject e.cell, place k + 3⟩ (some e.cell)))) ∧
      (s.hasWriteAccess e.link e.cell = false →
        s.judgeDeferred e =
          s.raise
            (match e.kind with
              | .write => ⟨e.link, e.tag, 0x11, [0, 0, 0, 0, 1]⟩
              | .fetchAdd => ⟨e.link, e.tag, 0x12, List.replicate 12 0 ++ [1]⟩
              | .commit => ⟨e.link, e.tag, 0x19, [0, 0, 0, 0, 0, 1]⟩)
            ⟨.cellClass, cellSubject e.cell, cellClassDetail (s.cell e.cell).access⟩ (some e.cell))

/-- R34, R47, R49: the hold on a cell expires when the hub clock reaches its deadline: the record is ENDED and the drain requested,
the holder's entry goes from HELD to ARMED with its version and failure count kept, and the expiry is counted. R49, R59: the clock does
not count on while a hold stands whose deadline it has reached, unless a reset request stands, nor while a drain is pending or an
operation is in progress, so that a deferred request waits on only for a hold that stands with a later deadline. That the clock waits for
the drain too is the model's choice (log 12): the manual gives the arbiter's time no number. -/
def Obligations.HoldExpiryDowngradesTheHolder : Prop :=
  (∀ s t : State, s.pending = [] → s.rstn = true → s.resetRequest = none → step s = .next t →
      t.clock = s.clock + 1 ∧ t.settled = true ∧ t.drains = [] ∧
        (∀ h ∈ t.holds, ∀ d, h.phase = .standing d → reached s.clock d = false) ∧
        (HoldsWf t → ∀ e ∈ t.dwq, ∃ h ∈ t.holds, h.cell = e.cell ∧ ∃ d, h.phase = .standing d ∧ reached s.clock d = false)) ∧
  ∀ (s : State) (c : CellIx) (h : HoldRecord) (d : Clock) (v : Word), s.settled = true → s.resetRequest = none → h ∈ s.holds →
    h.cell = c → h.phase = .standing d → (s.clock - d).toNat < 2 ^ 31 → (∀ k ∈ s.holds, k.cell = c → k = h) →
    (s.entry h.holder).reservation = .held c v →
      exec (.holdExpiry c) s =
        .next { s with
          holds := s.holds.map fun k => if k.cell = c then { k with phase := .ended } else k
          drains := s.drains ++ [c]
          entries := setAt s.entries h.holder ⟨.armed c v, (s.entry h.holder).failures⟩
          counters := { s.counters with holdsExpired := s.counters.holdsExpired + 1 } }

/-! ### Watches (R62 to R68) -/

/-- R65 to R67: a WATCH of a cell that the session does not watch, with fewer than four watches and the cell's value good, adds a
record that is not pending and answers OK with the value, the version and the number of watches after. Of a cell it watches it takes a
STATE fault, with four watches a CAPACITY fault, and then, on a value that is poisoned or fails its check, an INTEGRITY fault; no watch
is added. An UNWATCH of a watched cell removes the record, with the CHANGED that it had pending, and answers OK with the count
discarded and the number of watches after; of a cell not watched it takes a STATE fault, and of a cell index above 1023 a RANGE fault.
Nothing else changes. That a detection clears the failing check is the model's (log 15). -/
def Obligations.WatchAddsAndUnwatchRemoves : Prop :=
  (∀ (s : State) (l : Link) (tag : Tag) (c : CellIx), s.takesCell l tag (.watch (cellSubject c)) →
      let o := faulting s l tag (.watch (cellSubject c))
      let unwatched := ∀ w ∈ s.watches, ¬(w.link = l ∧ w.cell = c)
      (¬unwatched →
        exec (.watch l tag (cellSubject c)) s =
          .next ((s.cellTaken l).raise o ⟨.watchExists, cellSubject c, BitVec.ofNat 32 (s.watchCount l)⟩ none)) ∧
      (unwatched → 4 ≤ s.watchCount l →
        exec (.watch l tag (cellSubject c)) s = .next ((s.cellTaken l).raise o ⟨.watchLimit, cellSubject c, 4⟩ none)) ∧
      (unwatched → s.watchCount l < 4 → (s.cell c).poisoned = true ∨ (s.cell c).checkFails = true →
        ∃ d code, MeetsBadValue (s.cellTaken l) d c code ∧
          exec (.watch l tag (cellSubject c)) s = .next (d.raise o ⟨code, cellSubject c, (s.cell c).version⟩ none))) ∧
  (∀ (s : State) (l : Link) (tag : Tag) (cell : Half), s.takesInOrder l tag (.unwatch cell) → 1023 < cell.toNat →
      exec (.unwatch l tag cell) s = .next ((s.orderTaken l).raise (faulting s l tag (.unwatch cell)) ⟨.cellIndex, cell, 0⟩ none)) ∧
  (∀ (s : State) (l : Link) (tag : Tag) (c : CellIx), s.takesCell l tag (.watch (cellSubject c)) →
      (∀ w ∈ s.watches, ¬(w.link = l ∧ w.cell = c)) → s.watchCount l < 4 → (s.cell c).poisoned = false → (s.cell c).checkFails = false →
        exec (.watch l tag (cellSubject c)) s =
          .next { (s.cellTaken l).withReply l ⟨0x9C, tag, .ok, le 8 (s.cell c).value ++ le 4 (s.cell c).version ++
              [BitVec.ofNat 8 (s.watchCount l + 1)]⟩ with
            watches := s.watches ++ [⟨l, c, none⟩] }) ∧
  (∀ (s : State) (l : Link) (tag : Tag) (c : CellIx), s.takesInOrder l tag (.unwatch (cellSubject c)) →
      (∀ w ∈ s.watches, w.link = l → w.cell = c → (∀ v ∈ s.watches, v.link = l → v.cell = c → v = w) →
        exec (.unwatch l tag (cellSubject c)) s =
          .next { (s.orderTaken l).withReply l ⟨0x9D, tag, .ok,
              [match w.pending with | some n => BitVec.ofNat 8 n | none => 0, BitVec.ofNat 8 (s.watchCount l - 1)]⟩ with
            watches := s.watches.filter fun v => decide (¬(v.link = l ∧ v.cell = c)) }) ∧
      ((∀ w ∈ s.watches, ¬(w.link = l ∧ w.cell = c)) →
        exec (.unwatch l tag (cellSubject c)) s =
          .next ((s.orderTaken l).raise (faulting s l tag (.unwatch (cellSubject c)))
            ⟨.watchMissing, cellSubject c, BitVec.ofNat 32 (s.watchCount l)⟩ none)))

/-! ### Message queues (R75 to R97) -/

/-- R81, R82, R132: CREATE_QUEUE by the admin of an ABSENT queue with a capacity of 1 to 64 makes it UNBOUND with the shape given,
empty, and answers OK with the free pool slots; no slot is taken. DESTROY_QUEUE by the admin answers a waiting take GONE,
withdraws the owner's ARRIVAL of the queue, clears every designation that names it, and makes it ABSENT with its messages; the
reply carries the number discarded. From a session that is not admin both take an ACCESS fault. (The other checks are those of
QueueChecksFaultInOrder.) Where the waiting take is of the admin's own link, its GONE reply stands before the DESTROY_QUEUE's: log 10,
the model's reading. -/
def Obligations.CreateAndDestroyQueue : Prop :=
  (∀ (s : State) (l : Link) (tag : Tag) (q : QueueIx) (label : Half) (capacity : Byte) (overflow : Overflow) (mask : Byte)
      (intended : Half) (notify : Bool),
      s.takesQueue l tag (.createQueue (queueField q) label capacity overflow mask intended notify) → 1 ≤ capacity.toNat →
      capacity.toNat ≤ 64 →
        (s.admin = some l → s.queue q = none →
          ∃ t, exec (.createQueue l tag (queueField q) label capacity overflow mask intended notify) s = .next t ∧
            t.queue q = some ⟨label, capacity.toNat, overflow, mask, if intended = 0 then none else some intended, notify, none, [], none, 0⟩ ∧
            (∀ k, k ≠ q → t.queue k = s.queue k) ∧ t.slotsUsed = s.slotsUsed ∧
            t = { (s.queueTaken l).withReply l ⟨0xA0, tag, .ok, le 2 (BitVec.ofNat 16 (256 - s.slotsUsed) : Half)⟩ with
              queues := t.queues }) ∧
        (s.admin ≠ some l →
          exec (.createQueue l tag (queueField q) label capacity overflow mask intended notify) s =
            .next ((s.queueTaken l).raiseInQueue ⟨l, tag, 0x20, [0, 0]⟩ ⟨.notAdmin, BitVec.ofNat 16 q.val, 0⟩))) ∧
  (∀ (s : State) (l : Link) (tag : Tag) (q : QueueIx) (d : Queue), s.takesQueue l tag (.destroyQueue (queueField q)) → s.queue q = some d →
      (s.admin = some l →
        ∃ t, exec (.destroyQueue l tag (queueField q)) s = .next t ∧ t.queue q = none ∧ (∀ k, k ≠ q → t.queue k = s.queue k) ∧
          (∀ k, t.faultRecord k =
            if (s.faultRecord k).designation = some q then { s.faultRecord k with designation := none } else s.faultRecord k) ∧
          (∀ k,
            let u := s.link k
            let u := match d.waitingTake with
              | some w => if w.link = k then u.answered ⟨0xA5, w.tag, .gone, []⟩ else u
              | none => u
            let u := if d.owner = some k then
              { u with reports := { u.reports with arrivals := u.reports.arrivals.filter fun j => decide (j ≠ q) } } else u
            t.link k = if k = l then u.answered ⟨0xA1, tag, .ok, [BitVec.ofNat 8 d.messages.length]⟩ else u) ∧
          t = { s.queueTaken l with queues := t.queues, faults := t.faults, links := t.links }) ∧
      (s.admin ≠ some l →
        exec (.destroyQueue l tag (queueField q)) s =
          .next ((s.queueTaken l).raiseInQueue ⟨l, tag, 0x21, [0]⟩ ⟨.notAdmin, BitVec.ofNat 16 q.val, 0⟩)))

/-- R83, R84: BIND of an UNBOUND queue that has no intended owner, or the session's host identity as one, makes the session its
owner, an ARRIVAL pending if it holds a message and notify is yes, and answers with the messages held and the urgent ones; a
BOUND queue takes a STATE fault with its owner link, another host's queue an ACCESS fault with the intended owner. UNBIND by the
owner answers a waiting take CANCELLED first, withdraws the ARRIVAL and leaves the queue UNBOUND. Messages, drop count and shape
are kept. That the CANCELLED reply stands before the UNBIND's own is log 10, the model's reading. (The checks of index and ABSENT are
those of QueueChecksFaultInOrder.) -/
def Obligations.BindAndUnbindQueue : Prop :=
  (∀ (s : State) (l : Link) (tag : Tag) (q : QueueIx) (d : Queue), s.takesQueue l tag (.bind (queueField q)) → s.queue q = some d →
      (d.owner = none → (d.intended = none ∨ ∃ x, s.session l = some x ∧ d.intended = some x.hostId) →
        ∃ t, exec (.bind l tag (queueField q)) s = .next t ∧ t.queue q = some { d with owner := some l } ∧
          (∀ k, k ≠ q → t.queue k = s.queue k) ∧
          t = { s.queueTaken l with
            queues := t.queues
            links := setAt s.links l
              (LinkUnit.answered
                { s.link l with reports := { (s.link l).reports with
                  arrivals := if d.notify && !d.messages.isEmpty then insertIx q (s.link l).reports.arrivals
                    else (s.link l).reports.arrivals } }
                ⟨0xA2, tag, .ok, [BitVec.ofNat 8 d.messages.length, BitVec.ofNat 8 (d.messages.filter Message.urgent).length]⟩) }) ∧
      (∀ k, d.owner = some k →
        exec (.bind l tag (queueField q)) s =
          .next ((s.queueTaken l).raiseInQueue ⟨l, tag, 0x22, [0, 0]⟩ ⟨.queueBound, BitVec.ofNat 16 q.val, BitVec.ofNat 32 k.val⟩)) ∧
      (∀ h, d.owner = none → d.intended = some h → (∀ x, s.session l = some x → x.hostId ≠ h) →
        exec (.bind l tag (queueField q)) s =
          .next ((s.queueTaken l).raiseInQueue ⟨l, tag, 0x22, [0, 0]⟩ ⟨.intendedOwner, BitVec.ofNat 16 q.val, h.setWidth 32⟩))) ∧
  (∀ (s : State) (l : Link) (tag : Tag) (q : QueueIx) (d : Queue), s.takesQueue l tag (.unbind (queueField q)) → s.queue q = some d →
      d.owner = some l →
        ∃ t, exec (.unbind l tag (queueField q)) s = .next t ∧ t.queue q = some { d with owner := none, waitingTake := none } ∧
          (∀ k, k ≠ q → t.queue k = s.queue k) ∧
          (∀ k,
            let u := s.link k
            let u := match d.waitingTake with
              | some w => if w.link = k then u.answered ⟨0xA5, w.tag, .cancelled, []⟩ else u
              | none => u
            t.link k = if k = l then
              LinkUnit.answered
                { u with reports := { u.reports with arrivals := u.reports.arrivals.filter fun j => decide (j ≠ q) } }
                ⟨0xA3, tag, .ok, [BitVec.ofNat 8 d.messages.length]⟩
            else u) ∧
          t = { s.queueTaken l with queues := t.queues, links := t.links })

/-- R85, R86, R91, R94: a POST that the mask admits is placed by the first case that applies: handed to the waiting take, which gets
it as its OK reply; at capacity, under REFUSE a CAPACITY fault QUEUE_FULL, under DROP_OLDEST in the place of the oldest normal
message, or of the oldest urgent one when all are urgent; with a free slot, at the tail, an ARRIVAL pending for the owner of an
empty queue with notify; else a fault POOL_EMPTY. Where the poster's own waiting take gets the message, the TAKE's reply stands before
the POST's: log 10, the model's reading. -/
def Obligations.PostIsPlacedByTheFirstCase : Prop :=
  ∀ (s : State) (l : Link) (tag : Tag) (q : QueueIx) (d : Queue) (urgent : Bool) (payload : List Byte),
    s.takesQueue l tag (.post (queueField q) urgent payload) → s.queue q = some d → d.mask.getLsbD l.val = true →
      let m : Message := ⟨BitVec.ofNat 8 l.val, s.hostId l, s.clock, urgent, payload⟩
      let result := exec (.post l tag (queueField q) urgent payload) s
      let record : List Byte :=
        [BitVec.ofNat 8 l.val] ++ le 2 (s.hostId l) ++ le 4 s.clock ++ [if urgent then 1 else 0] ++ payload
      let placed := fun (t : State) (d' : Queue) => t.queue q = some d' ∧ ∀ k, k ≠ q → t.queue k = s.queue k
      (∀ w, d.waitingTake = some w →
        ∃ t, result = .next t ∧ placed t { d with waitingTake := none } ∧
          t = { ((s.queueTaken l).withReply w.link ⟨0xA5, w.tag, .ok, 0 :: record⟩).withReply l
              ⟨0xA4, tag, .ok, [BitVec.ofNat 8 d.messages.length, 1]⟩ with queues := t.queues }) ∧
      (d.waitingTake = none → d.messages.length < d.capacity → 0 < s.slotsFree →
        ∃ t, result = .next t ∧ placed t { d with messages := d.messages ++ [m] } ∧
          t = { State.withReply
              { s.queueTaken l with
                links := match d.owner with
                  | some k => if d.notify && d.messages.isEmpty then
                      setAt s.links k { s.link k with reports := { (s.link k).reports with
                        arrivals := insertIx q (s.link k).reports.arrivals } }
                    else s.links
                  | none => s.links }
              l ⟨0xA4, tag, .ok, [BitVec.ofNat 8 (d.messages.length + 1), 0]⟩ with queues := t.queues }) ∧
      (d.waitingTake = none → d.capacity ≤ d.messages.length → d.overflow = .dropOldest → ∀ before x after,
        d.messages = before ++ x :: after →
        ((x.urgent = false ∧ ∀ y ∈ before, y.urgent = true) ∨ (before = [] ∧ ∀ y ∈ d.messages, y.urgent = true)) →
          ∃ t, result = .next t ∧
            placed t { d with
              messages := before ++ after ++ [m], drops := if d.drops < 65535 then d.drops + 1 else d.drops } ∧
            t = { (s.queueTaken l).withReply l ⟨0xA4, tag, .ok, [BitVec.ofNat 8 d.messages.length, 2]⟩ with queues := t.queues }) ∧
      (d.waitingTake = none → d.capacity ≤ d.messages.length → d.overflow = .refuse →
        result =
          .next ((s.queueTaken l).raiseInQueue ⟨l, tag, 0x24, [BitVec.ofNat 8 d.messages.length, 0]⟩
            ⟨.queueFull, BitVec.ofNat 16 q.val, BitVec.ofNat 32 d.capacity⟩)) ∧
      (d.waitingTake = none → d.messages.length < d.capacity → s.slotsFree = 0 →
        result =
          .next ((s.queueTaken l).raiseInQueue ⟨l, tag, 0x24, [BitVec.ofNat 8 d.messages.length, 0]⟩
            ⟨.poolEmpty, BitVec.ofNat 16 q.val, 0⟩))

/-- R81 to R85, R88, R89, R97, R121: the checks of the queue requests in their order. A queue index above 31 first, for every one of
them. CREATE_QUEUE then checks a capacity of 1 to 64, the role and that the queue is ABSENT; DESTROY_QUEUE the role and that it is not;
BIND that it is not ABSENT (its other checks have their own statement); POST, UNBIND, TAKE and PEEK an ABSENT queue, then for POST a
link that the post mask leaves out, and for the others a session that is not the owner, its fault's detail the owner link, or 0xFF. The
queues stay as they are but for a forward post. In a POST's default result the held count of a queue index above 31 is a free value
(log 9, a choice of the model), and it is the count before the request's own forward post (log 11, the model's reading). -/
def Obligations.QueueChecksFaultInOrder : Prop :=
  (∀ (s : State) (l : Link) (tag : Tag) (queue : Byte) (r : Request), queueIndexOf r = some queue → s.takesQueue l tag r →
      let fault := fun code detail => (s.queueTaken l).raiseInQueue (faulting s l tag r) ⟨code, queue.setWidth 16, detail⟩
      (31 < queue.toNat → exec (commandOf l tag r) s = .next (fault .queueIndex 0)) ∧
      (∀ label capacity overflow mask intended notify, r = .createQueue queue label capacity overflow mask intended notify →
        queue.toNat ≤ 31 →
          (capacity = 0 ∨ 64 < capacity.toNat → exec (commandOf l tag r) s = .next (fault .queueCapacity (capacity.setWidth 32))) ∧
          (1 ≤ capacity.toNat → capacity.toNat ≤ 64 → s.admin ≠ some l → exec (commandOf l tag r) s = .next (fault .notAdmin 0)) ∧
          (∀ q d, 1 ≤ capacity.toNat → capacity.toNat ≤ 64 → s.admin = some l → queue = queueField q → s.queue q = some d →
            exec (commandOf l tag r) s = .next (fault .queueExists (if d.owner = none then 1 else 2)))) ∧
      (r = .destroyQueue queue → queue.toNat ≤ 31 →
        (s.admin ≠ some l → exec (commandOf l tag r) s = .next (fault .notAdmin 0)) ∧
        (∀ q, s.admin = some l → queue = queueField q → s.queue q = none →
          exec (commandOf l tag r) s = .next (fault .queueAbsent 0))) ∧
      (∀ q, r = .bind queue → queue = queueField q → s.queue q = none → exec (commandOf l tag r) s = .next (fault .queueAbsent 0))) ∧
  (∀ (s : State) (l : Link) (tag : Tag) (queue : Byte) (urgent : Bool) (payload : List Byte),
      s.takesQueue l tag (.post queue urgent payload) →
        let result := exec (.post l tag queue urgent payload) s
        let fault := fun code detail =>
          (s.queueTaken l).raiseInQueue (faulting s l tag (.post queue urgent payload)) ⟨code, queue.setWidth 16, detail⟩
        (31 < queue.toNat → result = .next (fault .queueIndex 0)) ∧
        (∀ q, queue = queueField q → s.queue q = none → result = .next (fault .queueAbsent 0)) ∧
        (∀ q d, queue = queueField q → s.queue q = some d → d.mask.getLsbD l.val = false →
          result = .next (fault .postMask (d.mask.setWidth 32)))) ∧
  (∀ (s : State) (l : Link) (tag : Tag) (queue : Byte) (wait : Half) (r : Request),
      r = .unbind queue ∨ r = .take queue wait ∨ r = .peek queue → s.takesQueue l tag r →
        let fault := fun code detail => (s.queueTaken l).raiseInQueue (faulting s l tag r) ⟨code, queue.setWidth 16, detail⟩
        (31 < queue.toNat → exec (commandOf l tag r) s = .next (fault .queueIndex 0)) ∧
        (∀ q, queue = queueField q → s.queue q = none →
          exec (commandOf l tag r) s = .next (fault .queueAbsent 0)) ∧
        (∀ q d, queue = queueField q → s.queue q = some d → d.owner ≠ some l →
          exec (commandOf l tag r) s =
            .next (fault .notOwner (match d.owner with | some k => BitVec.ofNat 32 k.val | none => 0xFF))))

/-- R77, R88, R90, R95: a TAKE by the owner removes and returns the head, the oldest urgent message if there is one and else the
oldest, with the number remaining, and withdraws a pending ARRIVAL with the last message. Of an empty queue it answers EMPTY
when its wait is 0; otherwise it becomes the waiting take, with its deadline and no reply, or takes a STATE fault with the tag
of the one already there. -/
def Obligations.TakeRemovesTheHeadOrWaits : Prop :=
  ∀ (s : State) (l : Link) (tag : Tag) (q : QueueIx) (d : Queue) (wait : Half), s.takesQueue l tag (.take (queueField q) wait) →
    s.queue q = some d → d.owner = some l →
      let result := exec (.take l tag (queueField q) wait) s
      (∀ before x after, d.messages = before ++ x :: after →
        ((x.urgent = true ∧ ∀ y ∈ before, y.urgent = false) ∨ (before = [] ∧ ∀ y ∈ d.messages, y.urgent = false)) →
          ∃ t, result = .next t ∧ t.queue q = some { d with messages := before ++ after } ∧ (∀ k, k ≠ q → t.queue k = s.queue k) ∧
            t = { s.queueTaken l with
              queues := t.queues
              links := setAt s.links l
                (LinkUnit.answered
                  { s.link l with reports := { (s.link l).reports with
                    arrivals := if before ++ after = [] then (s.link l).reports.arrivals.filter fun j => decide (j ≠ q)
                      else (s.link l).reports.arrivals } }
                  ⟨0xA5, tag, .ok, [BitVec.ofNat 8 (before ++ after).length, x.senderLink] ++ le 2 x.senderHost ++ le 4 x.stamp ++
                    [if x.urgent then 1 else 0] ++ x.payload⟩) }) ∧
      (d.messages = [] → wait = 0 → result = .next ((s.queueTaken l).withReply l ⟨0xA5, tag, .empty, [0]⟩)) ∧
      (d.messages = [] → wait ≠ 0 → d.waitingTake = none →
        ∃ t, result = .next t ∧
          t.queue q = some { d with waitingTake := some ⟨l, tag, s.clock + BitVec.ofNat 32 wait.toNat⟩ } ∧
          (∀ k, k ≠ q → t.queue k = s.queue k) ∧ t = { s.queueTaken l with queues := t.queues }) ∧
      (∀ w, d.messages = [] → wait ≠ 0 → d.waitingTake = some w →
        result = .next ((s.queueTaken l).raiseInQueue ⟨l, tag, 0x25, [0]⟩ ⟨.takeWaiting, BitVec.ofNat 16 q.val, w.tag.setWidth 32⟩))

/-- R89, R97, R171: PEEK by the owner returns the head and the number of messages held, or EMPTY with 0, and QUERY_QUEUE the
descriptor and the free slots; neither changes anything but the reply. -/
def Obligations.PeekAndQueryQueueChangeNothing : Prop :=
  ∀ (s : State) (l : Link) (tag : Tag) (q : QueueIx),
    (∀ d, s.takesQueue l tag (.peek (queueField q)) → s.queue q = some d → d.owner = some l →
      (∀ before x after, d.messages = before ++ x :: after →
        ((x.urgent = true ∧ ∀ y ∈ before, y.urgent = false) ∨ (before = [] ∧ ∀ y ∈ d.messages, y.urgent = false)) →
          exec (.peek l tag (queueField q)) s =
            .next ((s.queueTaken l).withReply l
              ⟨0xA6, tag, .ok, [BitVec.ofNat 8 d.messages.length, x.senderLink] ++ le 2 x.senderHost ++ le 4 x.stamp ++
                [if x.urgent then 1 else 0] ++ x.payload⟩)) ∧
      (d.messages = [] →
        exec (.peek l tag (queueField q)) s = .next ((s.queueTaken l).withReply l ⟨0xA6, tag, .empty, [0]⟩))) ∧
    (s.takesQueue l tag (.queryQueue (queueField q)) →
      (∀ d, s.queue q = some d →
        exec (.queryQueue l tag (queueField q)) s =
          .next ((s.queueTaken l).withReply l
            ⟨0xA7, tag, .ok, ([if d.owner = none then 1 else 2] : List Byte) ++ le 2 d.label ++
              [BitVec.ofNat 8 d.capacity, match d.overflow with | .refuse => 0 | .dropOldest => 1, d.mask] ++
              le 2 (d.intended.getD 0) ++
              [if d.notify then 1 else 0, match d.owner with | some k => BitVec.ofNat 8 k.val | none => 0xFF,
                BitVec.ofNat 8 d.messages.length, BitVec.ofNat 8 (d.messages.filter Message.urgent).length,
                if d.waitingTake.isSome then 1 else 0] ++
              le 2 (BitVec.ofNat 16 d.drops : Half) ++ le 2 (BitVec.ofNat 16 (256 - s.slotsUsed) : Half)⟩)) ∧
      (s.queue q = none →
        exec (.queryQueue l tag (queueField q)) s =
          .next ((s.queueTaken l).withReply l
            ⟨0xA7, tag, .ok, List.replicate 9 0 ++ [0xFF, 0, 0, 0, 0, 0] ++ le 2 (BitVec.ofNat 16 (256 - s.slotsUsed) : Half)⟩)))

/-- R80, R87, R126, R127: the oldest pending forward post is taken: its record is placed in its queue as an urgent message of the hub,
handed to a waiting take, in the place of the oldest message at capacity under DROP_OLDEST, or at the tail with a slot, and the
faulting request is answered OK_DEFAULT with its default result; with its queue ABSENT, at capacity under REFUSE, or below capacity
with the pool empty, the record is lost, the forward-lost flag is set and the status is OK_DEFAULT_LOST. Where the fault was that of a
DWQ entry and the cell has another, the drain can then go on with that one (R54; DrainJudgesEntriesInOrder). The rotation pointer stays. -/
def Obligations.ForwardPostCompletesTheRequest : Prop :=
  ∀ (s : State) (p : ForwardPost) (rest : List ForwardPost), s.resetRequest = none → s.forwardPosts = p :: rest →
    let goesOn := fun t : State => match p.resume with
      | none => t
      | some c => if ∃ e ∈ t.dwq, e.cell = c then { t with draining := some c } else t
    let m : Message := ⟨0xFF, 0, s.clock, true, p.record⟩
    (∀ d, s.queue p.queue = some d → ¬NoPlace s d →
      ∃ t, Placement { s with forwardPosts := rest } t p.queue d m ∧
        exec .forwardPost s = .next (goesOn (t.withReply p.link ⟨p.kind + 0x80, p.tag, .okDefault, p.fields⟩))) ∧
    (s.queue p.queue = none ∨ (∃ d, s.queue p.queue = some d ∧ NoPlace s d) →
      exec .forwardPost s =
        .next (goesOn (State.withReply
          { s with
            forwardPosts := rest
            faults := setAt s.faults p.link { s.faultRecord p.link with lost := true } }
          p.link ⟨p.kind + 0x80, p.tag, .okDefaultLost, p.fields⟩)))

/-- R91: a waiting take whose deadline the hub clock has reached ends with an EMPTY reply, remaining 0, and nothing else changes. It can
come while an operation of another block is in progress (R79, log 8). -/
def Obligations.WaitingTakeExpiresEmpty : Prop :=
  ∀ (s : State) (q : QueueIx) (d : Queue) (w : WaitingTake), s.settled = true ∨ s.inProgress = true → s.resetRequest = none → s.queue q = some d →
    d.waitingTake = some w → (s.clock - w.deadline).toNat < 2 ^ 31 →
      ∃ t, exec (.waitingTakeExpiry q) s = .next t ∧ t.queue q = some { d with waitingTake := none } ∧
        (∀ k, k ≠ q → t.queue k = s.queue k) ∧
        t = { s.withReply w.link ⟨0xA5, w.tag, .empty, [0]⟩ with queues := t.queues }

/-! ### Fault policies (R122 to R133) -/

/-- R80, R123 to R127: a fault sets its class's flag under every policy; under REFUSE the reply is FAULT with class, code, subject
and detail; under ABSORB OK_DEFAULT with the default result; under FORWARD without a designation the record is lost. With one, a
fault raised outside QUE has its forward post, the 10-byte fault record, pending at the queue arbiter, its reply waiting for it, with
the request whose turn it is there as the one that the arbiter can be carrying out (which request that is the manual does not say: log 8,
the model's choice); a fault raised in a queue operation has it carried out within that operation: placed, by the first case of R86
that applies, with the reply OK_DEFAULT, or lost with OK_DEFAULT_LOST when the queue is ABSENT or has no place. -/
def Obligations.FaultPolicyDecidesTheReply : Prop :=
  (∀ (s : State) (o : Faulting) (f : HubFault) (resume : Option CellIx),
      let c := f.code.faultClass
      let r := s.faultRecord o.link
      let flagged := { r with occurred := setAt r.occurred (classIndex c) true }
      (s.policy o.link c = .refuse → s.raise o f resume = s.withRefusal o.link o.tag o.kind f) ∧
      (s.policy o.link c = .absorb →
        s.raise o f resume =
          State.withReply { s with faults := setAt s.faults o.link flagged } o.link ⟨o.kind + 0x80, o.tag, .okDefault, o.fields⟩) ∧
      (s.policy o.link c = .forward → r.designation = none →
        s.raise o f resume =
          State.withReply { s with faults := setAt s.faults o.link { flagged with lost := true } } o.link
            ⟨o.kind + 0x80, o.tag, .okDefaultLost, o.fields⟩) ∧
      (s.policy o.link c = .forward → ∀ q, r.designation = some q →
        s.raise o f resume =
          { s with
            faults := setAt s.faults o.link flagged
            forwardPosts := s.forwardPosts ++ [⟨o.link, o.tag, o.kind, o.fields, q,
              [classByte c, f.code.byte, o.kind, o.tag] ++ le 2 f.subject ++ le 4 f.detail, resume, s.queueChoice⟩] })) ∧
  (∀ (s : State) (o : Faulting) (f : HubFault),
      let c := f.code.faultClass
      let r := s.faultRecord o.link
      let flagged := { r with occurred := setAt r.occurred (classIndex c) true }
      (s.policy o.link c = .refuse → s.raiseInQueue o f = s.withRefusal o.link o.tag o.kind f) ∧
      (s.policy o.link c = .absorb →
        s.raiseInQueue o f =
          State.withReply { s with faults := setAt s.faults o.link flagged } o.link ⟨o.kind + 0x80, o.tag, .okDefault, o.fields⟩) ∧
      (s.policy o.link c = .forward → r.designation = none →
        s.raiseInQueue o f =
          State.withReply { s with faults := setAt s.faults o.link { flagged with lost := true } } o.link
            ⟨o.kind + 0x80, o.tag, .okDefaultLost, o.fields⟩) ∧
      (s.policy o.link c = .forward → ∀ q, r.designation = some q →
        (s.queue q = none ∨ (∃ d, s.queue q = some d ∧ NoPlace s d) →
          s.raiseInQueue o f =
            State.withReply { s with faults := setAt s.faults o.link { flagged with lost := true } } o.link
              ⟨o.kind + 0x80, o.tag, .okDefaultLost, o.fields⟩) ∧
        (∀ d, s.queue q = some d → ¬NoPlace s d →
          ∃ t, Placement { s with faults := setAt s.faults o.link flagged } t q d
              ⟨0xFF, 0, s.clock, true, [classByte c, f.code.byte, o.kind, o.tag] ++ le 2 f.subject ++ le 4 f.detail⟩ ∧
            s.raiseInQueue o f = t.withReply o.link ⟨o.kind + 0x80, o.tag, .okDefault, o.fields⟩)))

/-- R128 to R131: SET_POLICY sets the policy of one class and answers with the one before, but refuses FORM another policy than
REFUSE with code FIXED_POLICY; CLEAR_FAULTS answers with the flags and clears them, policies and designation kept; SET_FORWARD
sets the designation to a queue that is not ABSENT, or to none, and answers with the one before. Nothing else changes. -/
def Obligations.PolicyRequestsChangeTheFaultRecord : Prop :=
  ∀ (s : State) (l : Link) (tag : Tag),
    let r := s.faultRecord l
    let answered := fun (record : FaultRecord) (reply : Reply) =>
      Host.Outcome.next (φ := Fault) (ρ := Refusal)
        ((State.withReply { s.arrivalTaken l with faults := setAt s.faults l record } l reply).route l)
    (∀ cls policy, s.takesArrived l tag (.setPolicy cls policy) →
      (cls ≠ .form ∨ policy = .refuse →
        exec (.setPolicy l tag cls policy) s =
          answered { r with policies := setAt r.policies (classIndex cls) policy } ⟨0xB0, tag, .ok, [policyByte (s.policy l cls)]⟩) ∧
      (∀ x, s.session l = some x → cls = .form → policy ≠ .refuse →
        exec (.setPolicy l tag cls policy) s =
          .next (((s.arrivalTaken l).withRefusal l tag 0x30 ⟨.fixedPolicy, 0, (policyByte policy).setWidth 32⟩).route l))) ∧
    (s.takesArrived l tag .clearFaults →
      exec (.clearFaults l tag) s =
        answered { r with occurred := Vector.replicate 6 false, lost := false }
          ⟨0xB1, tag, .ok, [occurredByte r.occurred, if r.lost then 1 else 0]⟩) ∧
    (∀ queue, s.takesArrived l tag (.setForward queue) →
      let before : Byte := match r.designation with | some q => BitVec.ofNat 8 q.val | none => 0xFF
      (queue = 0xFF →
        exec (.setForward l tag queue) s = answered { r with designation := none } ⟨0xB2, tag, .ok, [before]⟩) ∧
      (∀ q d, queue = queueField q → s.queue q = some d →
        exec (.setForward l tag queue) s = answered { r with designation := some q } ⟨0xB2, tag, .ok, [before]⟩) ∧
      (∀ q, queue = queueField q → s.queue q = none →
        exec (.setForward l tag queue) s =
          .next (((s.arrivalTaken l).raise ⟨l, tag, 0x32, [0xFF]⟩ ⟨.queueAbsent, BitVec.ofNat 16 q.val, 0⟩ none).route l)) ∧
      (31 < queue.toNat → queue ≠ 0xFF →
        exec (.setForward l tag queue) s =
          .next (((s.arrivalTaken l).raise ⟨l, tag, 0x32, [0xFF]⟩ ⟨.queueIndex, queue.setWidth 16, 0⟩ none).route l)))

/-! ### Hub control (R138 to R149) -/

/-- R138, R140, R141: YIELD_ADMIN by the admin: to another ATTACHED, eligible session the role passes whatever its link; to its own
link nothing changes; without a target it passes to the lowest-numbered eligible other session. The reply carries the admin link
after; both links have a ROLE report pending, and a pending INTEGRITY moves with the unreported detections. The YIELD_ADMINs
that fail a check, in their order, take their faults and leave the role where it is. -/
def Obligations.YieldAdminPassesTheRole : Prop :=
  (∀ (s : State) (l : Link) (tag : Tag) (target : Byte), s.takesArrived l tag (.yieldAdmin target) → s.admin = some l →
      let passed := fun k : Link =>
        let taken := s.arrivalTaken l
        let loser := { taken.link l with reports := { (taken.link l).reports with role := true, integrity := false } }
        let gainer := { taken.link k with reports := { (taken.link k).reports with
          role := true, integrity := (taken.link k).reports.integrity || decide (0 < s.unreported) } }
        (State.withReply { taken with admin := some k, links := setAt (setAt taken.links l loser) k gainer } l
          ⟨0xB3, tag, .ok, [BitVec.ofNat 8 k.val]⟩).route l
      (target = BitVec.ofNat 8 l.val →
        exec (.yieldAdmin l tag target) s =
          .next (((s.arrivalTaken l).withReply l ⟨0xB3, tag, .ok, [BitVec.ofNat 8 l.val]⟩).route l)) ∧
      (∀ k, k ≠ l → target = BitVec.ofNat 8 k.val → s.eligible k = true → exec (.yieldAdmin l tag target) s = .next (passed k)) ∧
      (∀ k, target = 0xFF → k ≠ l → s.eligible k = true → (∀ j, j < k → j ≠ l → s.eligible j = false) →
        exec (.yieldAdmin l tag target) s = .next (passed k))) ∧
  (∀ (s : State) (l : Link) (tag : Tag) (target : Byte), s.takesArrived l tag (.yieldAdmin target) →
      let fault := fun code subject => ((s.arrivalTaken l).raise ⟨l, tag, 0x33, [0]⟩ ⟨code, subject, 0⟩ none).route l
      (7 < target.toNat → target ≠ 0xFF →
        exec (.yieldAdmin l tag target) s = .next (fault .linkIndex (target.setWidth 16))) ∧
      (target.toNat ≤ 7 ∨ target = 0xFF → s.admin ≠ some l →
        exec (.yieldAdmin l tag target) s = .next (fault .notAdmin 0)) ∧
      (∀ k : Link, target = BitVec.ofNat 8 k.val → s.admin = some l → k ≠ l → s.eligible k = false →
        exec (.yieldAdmin l tag target) s = .next (fault .adminTarget (target.setWidth 16))) ∧
      (target = 0xFF → s.admin = some l → (∀ k, k ≠ l → s.eligible k = false) →
        exec (.yieldAdmin l tag target) s = .next (fault .adminAlone 0)))

/-- R143: CONFIGURE by the admin with a threshold of at most 15 and a limit that is not 0 sets all three fields and answers with
those before; standing holds and everything else stay. Its checks, in order, take RANGE faults CONFIG_VALUE with subject 0 or 1,
and an ACCESS fault NOT_ADMIN. -/
def Obligations.ConfigureSetsAllThreeFields : Prop :=
  ∀ (s : State) (l : Link) (tag : Tag) (threshold limit : Byte) (label : Half),
    s.takesArrived l tag (.configure threshold limit label) →
      let result := exec (.configure l tag threshold limit label) s
      let fault := fun code subject detail => ((s.arrivalTaken l).raise ⟨l, tag, 0x34, [0, 0, 0, 0]⟩ ⟨code, subject, detail⟩ none).route l
      (threshold.toNat ≤ 15 → limit ≠ 0 → s.admin = some l →
        result =
          .next ((State.withReply { s.arrivalTaken l with config := ⟨threshold.toNat, limit.toNat, label⟩ } l
            ⟨0xB4, tag, .ok, [BitVec.ofNat 8 s.config.threshold, BitVec.ofNat 8 s.config.limit] ++ le 2 s.config.label⟩).route l)) ∧
      (15 < threshold.toNat → result = .next (fault .configValue 0 (threshold.setWidth 32))) ∧
      (threshold.toNat ≤ 15 → limit = 0 → result = .next (fault .configValue 1 0)) ∧
      (threshold.toNat ≤ 15 → limit ≠ 0 → s.admin ≠ some l → result = .next (fault .notAdmin 0 0))

/-- R147: HUB_RESET by the admin places its OK reply with the scope behind the replies already there and sets the reset request; the
hub stays READY and nothing is cleared yet. From another session it takes an ACCESS fault. -/
def Obligations.HubResetSetsTheResetRequest : Prop :=
  ∀ (s : State) (l : Link) (tag : Tag) (scope : Scope), s.takesArrived l tag (.hubReset scope) →
    (s.admin = some l →
      exec (.hubReset l tag scope) s =
        .next { (s.arrivalTaken l).withReply l ⟨0xB5, tag, .ok, [match scope with | .clear => 0 | .keepCells => 1]⟩ with
          resetRequest := some ⟨scope, l⟩ }) ∧
    (s.admin ≠ some l →
      exec (.hubReset l tag scope) s = .next (((s.arrivalTaken l).raise ⟨l, tag, 0x35, [0]⟩ ⟨.notAdmin, 0, 0⟩ none).route l))

/-- R147: while a reset request stands no block takes work: no request of any kind, no drain, no forward post, no teardown, and no
hold, waiting take or lease expires. -/
def Obligations.NoWorkWhileAResetRequestStands : Prop :=
  ∀ (s : State) (r : ResetRequest), s.resetRequest = some r →
    (∀ (q : Request) (l : Link) (tag : Tag), exec (commandOf l tag q) s = .next s) ∧
    exec .drain s = .next s ∧ exec .forwardPost s = .next s ∧ (∀ c, exec (.holdExpiry c) s = .next s) ∧
    (∀ q, exec (.waitingTakeExpiry q) s = .next s) ∧ (∀ l, exec (.leaseExpiry l) s = .next s) ∧
    ∀ l, exec (.cleanTeardown l) s = .next s

/-! ### Invariants that every step keeps -/

/-- The invariants hold right after reset. -/
def Obligations.InvariantsHoldAtReset : Prop :=
  CellsWf State.reset.cells ∧ ReservationsWf State.reset ∧ HoldsWf State.reset ∧ HoldTimesWf State.reset ∧ WatchesWf State.reset ∧ QueuesWf State.reset ∧
    SessionsWf State.reset ∧ RoleWf State.reset ∧ FaultsWf State.reset ∧ LinksWf State.reset ∧ RequestsWf State.reset ∧ HubWf State.reset

/-- The cell store keeps its canonical form (the model's, for R1 and R2), and the configuration and the unreported detections keep
their ranges (R135, R143). -/
def Obligations.StepKeepsTheCellStoreAndConfiguration : Prop :=
  ∀ s t : State, CellsWf s.cells → HubWf s → step s = .next t → CellsWf t.cells ∧ HubWf t

/-- R33, with R24, R35, R39, R41, R61: while an entry is ARMED or HELD the version of its cell equals the version at arm; a HELD entry
has a STANDING record and failure count 0; the failure count lies in 0 to 15. Every step keeps this. With it, the queues
(StepKeepsTheQueueLimits) and the requests (StepKeepsTheLinkUnits), every step keeps the hold unit: at most one hold record a cell and
one a link, every STANDING record with its session's entry HELD on the cell, the drains those of the ENDED records, a DWQ of at most
32 entries, each for a cell with a hold record or of the drain in progress, and a high-water mark of at most 32. R43, R49: with a hold
limit of 1 to 255 (StepKeepsTheCellStoreAndConfiguration) every step keeps it that, while no reset request stands, no STANDING hold
outlives its deadline, which lies at most 255 ms ahead. That the clock does not count past a deadline before its expiry is log 12, the
model's choice. -/
def Obligations.StepKeepsReservationsCurrent : Prop :=
  ∀ s t : State, ReservationsWf s → step s = .next t →
    ReservationsWf t ∧ (HoldsWf s → QueuesWf s → RequestsWf s → HoldsWf t) ∧ (HubWf s → HoldTimesWf s → HoldTimesWf t)

/-- R62: the limits of the watch table, kept by every step. -/
def Obligations.StepKeepsTheWatchLimits : Prop :=
  ∀ s t : State, WatchesWf s → step s = .next t → WatchesWf t

/-- R75, R76, R86, R90, R131: no queue holds more than its capacity, the pool of 256 slots suffices, a waiting take belongs to the
owner of an empty queue, FORM's policy is REFUSE (R128) and no designation names an ABSENT queue. Every step keeps this. -/
def Obligations.StepKeepsTheQueueLimits : Prop :=
  ∀ s t : State, QueuesWf s → FaultsWf s → step s = .next t → QueuesWf t ∧ FaultsWf t

/-- R102: host identities stay unique among the sessions that are not DETACHED, and never 0. -/
def Obligations.StepKeepsHostIdentitiesUnique : Prop :=
  ∀ s t : State, SessionsWf s → step s = .next t → SessionsWf t

/-- R138, R141, R145: whenever an ATTACHED session is admin-eligible one ATTACHED, eligible session is admin, and the INTEGRITY
report of unreported detections is pending for the admin and no one else. Every step keeps this. -/
def Obligations.StepKeepsTheRoleFilled : Prop :=
  ∀ s t : State, RoleWf s → step s = .next t → RoleWf t

/-- R151, R152, R158, R160: at most four tags in flight, no two equal; a partial frame that can still become a frame; the ARRIVAL entries
in rising order; saturating counters, with the link entry pending while one is above 0. Every step keeps this. R155 to R157, with R104
and R109: with it, and with the queues well formed (StepKeepsTheQueueLimits), every step keeps the requests: each that waits somewhere
has its tag in flight, once; requests in flight and waiting replies together are at most 4; a CLOSING session has its CLOSE in flight
besides; nothing of a DETACHED link waits at a block. -/
def Obligations.StepKeepsTheLinkUnits : Prop :=
  ∀ s t : State, LinksWf s → step s = .next t → LinksWf t ∧ (QueuesWf s → RequestsWf s → RequestsWf t)

end
end

