-- ==== Sys2Proof/Laws/State.lean ====
section
/-! SUPPORT. What each update of one field leaves: one lemma per field per update, true by rfl. -/

namespace Sys2Proof.Machine

variable (s : State)

/-! ### State.updLink -/

@[simp] theorem State.updLink_rstn (l : Link) (f : LinkUnit → LinkUnit) : (s.updLink l f).rstn = s.rstn := rfl
@[simp] theorem State.updLink_lineRate (l : Link) (f : LinkUnit → LinkUnit) : (s.updLink l f).lineRate = s.lineRate := rfl
@[simp] theorem State.updLink_cells (l : Link) (f : LinkUnit → LinkUnit) : (s.updLink l f).cells = s.cells := rfl
@[simp] theorem State.updLink_modifications (l : Link) (f : LinkUnit → LinkUnit) : (s.updLink l f).modifications = s.modifications := rfl
@[simp] theorem State.updLink_cellPointer (l : Link) (f : LinkUnit → LinkUnit) : (s.updLink l f).cellPointer = s.cellPointer := rfl
@[simp] theorem State.updLink_cellLines (l : Link) (f : LinkUnit → LinkUnit) : (s.updLink l f).cellLines = s.cellLines := rfl
@[simp] theorem State.updLink_drains (l : Link) (f : LinkUnit → LinkUnit) : (s.updLink l f).drains = s.drains := rfl
@[simp] theorem State.updLink_draining (l : Link) (f : LinkUnit → LinkUnit) : (s.updLink l f).draining = s.draining := rfl
@[simp] theorem State.updLink_scrubbing (l : Link) (f : LinkUnit → LinkUnit) : (s.updLink l f).scrubbing = s.scrubbing := rfl
@[simp] theorem State.updLink_entries (l : Link) (f : LinkUnit → LinkUnit) : (s.updLink l f).entries = s.entries := rfl
@[simp] theorem State.updLink_holds (l : Link) (f : LinkUnit → LinkUnit) : (s.updLink l f).holds = s.holds := rfl
@[simp] theorem State.updLink_dwq (l : Link) (f : LinkUnit → LinkUnit) : (s.updLink l f).dwq = s.dwq := rfl
@[simp] theorem State.updLink_watches (l : Link) (f : LinkUnit → LinkUnit) : (s.updLink l f).watches = s.watches := rfl
@[simp] theorem State.updLink_queues (l : Link) (f : LinkUnit → LinkUnit) : (s.updLink l f).queues = s.queues := rfl
@[simp] theorem State.updLink_queuePointer (l : Link) (f : LinkUnit → LinkUnit) : (s.updLink l f).queuePointer = s.queuePointer := rfl
@[simp] theorem State.updLink_queueLines (l : Link) (f : LinkUnit → LinkUnit) : (s.updLink l f).queueLines = s.queueLines := rfl
@[simp] theorem State.updLink_forwardPosts (l : Link) (f : LinkUnit → LinkUnit) : (s.updLink l f).forwardPosts = s.forwardPosts := rfl
@[simp] theorem State.updLink_faults (l : Link) (f : LinkUnit → LinkUnit) : (s.updLink l f).faults = s.faults := rfl
@[simp] theorem State.updLink_sessions (l : Link) (f : LinkUnit → LinkUnit) : (s.updLink l f).sessions = s.sessions := rfl
@[simp] theorem State.updLink_hubState (l : Link) (f : LinkUnit → LinkUnit) : (s.updLink l f).hubState = s.hubState := rfl
@[simp] theorem State.updLink_resetRequest (l : Link) (f : LinkUnit → LinkUnit) : (s.updLink l f).resetRequest = s.resetRequest := rfl
@[simp] theorem State.updLink_admin (l : Link) (f : LinkUnit → LinkUnit) : (s.updLink l f).admin = s.admin := rfl
@[simp] theorem State.updLink_config (l : Link) (f : LinkUnit → LinkUnit) : (s.updLink l f).config = s.config := rfl
@[simp] theorem State.updLink_clock (l : Link) (f : LinkUnit → LinkUnit) : (s.updLink l f).clock = s.clock := rfl
@[simp] theorem State.updLink_unreported (l : Link) (f : LinkUnit → LinkUnit) : (s.updLink l f).unreported = s.unreported := rfl
@[simp] theorem State.updLink_latestCell (l : Link) (f : LinkUnit → LinkUnit) : (s.updLink l f).latestCell = s.latestCell := rfl
@[simp] theorem State.updLink_counters (l : Link) (f : LinkUnit → LinkUnit) : (s.updLink l f).counters = s.counters := rfl
@[simp] theorem State.updLink_pending (l : Link) (f : LinkUnit → LinkUnit) : (s.updLink l f).pending = s.pending := rfl
@[simp] theorem State.updLink_freeSeed (l : Link) (f : LinkUnit → LinkUnit) : (s.updLink l f).freeSeed = s.freeSeed := rfl
@[simp] theorem State.updLink_session (l : Link) (f : LinkUnit → LinkUnit) (i : Link) : (s.updLink l f).session i = s.session i := rfl
@[simp] theorem State.updLink_entry (l : Link) (f : LinkUnit → LinkUnit) (i : Link) : (s.updLink l f).entry i = s.entry i := rfl
@[simp] theorem State.updLink_faultRecord (l : Link) (f : LinkUnit → LinkUnit) (i : Link) : (s.updLink l f).faultRecord i = s.faultRecord i := rfl
@[simp] theorem State.updLink_cellLine (l : Link) (f : LinkUnit → LinkUnit) (i : Link) : (s.updLink l f).cellLine i = s.cellLine i := rfl
@[simp] theorem State.updLink_queueLine (l : Link) (f : LinkUnit → LinkUnit) (i : Link) : (s.updLink l f).queueLine i = s.queueLine i := rfl
@[simp] theorem State.updLink_cell (l : Link) (f : LinkUnit → LinkUnit) (i : CellIx) : (s.updLink l f).cell i = s.cell i := rfl
@[simp] theorem State.updLink_queue (l : Link) (f : LinkUnit → LinkUnit) (i : QueueIx) : (s.updLink l f).queue i = s.queue i := rfl

/-! ### State.setSession -/

@[simp] theorem State.setSession_rstn (l : Link) (x : Option Session) : (s.setSession l x).rstn = s.rstn := rfl
@[simp] theorem State.setSession_lineRate (l : Link) (x : Option Session) : (s.setSession l x).lineRate = s.lineRate := rfl
@[simp] theorem State.setSession_cells (l : Link) (x : Option Session) : (s.setSession l x).cells = s.cells := rfl
@[simp] theorem State.setSession_modifications (l : Link) (x : Option Session) : (s.setSession l x).modifications = s.modifications := rfl
@[simp] theorem State.setSession_cellPointer (l : Link) (x : Option Session) : (s.setSession l x).cellPointer = s.cellPointer := rfl
@[simp] theorem State.setSession_cellLines (l : Link) (x : Option Session) : (s.setSession l x).cellLines = s.cellLines := rfl
@[simp] theorem State.setSession_drains (l : Link) (x : Option Session) : (s.setSession l x).drains = s.drains := rfl
@[simp] theorem State.setSession_draining (l : Link) (x : Option Session) : (s.setSession l x).draining = s.draining := rfl
@[simp] theorem State.setSession_scrubbing (l : Link) (x : Option Session) : (s.setSession l x).scrubbing = s.scrubbing := rfl
@[simp] theorem State.setSession_entries (l : Link) (x : Option Session) : (s.setSession l x).entries = s.entries := rfl
@[simp] theorem State.setSession_holds (l : Link) (x : Option Session) : (s.setSession l x).holds = s.holds := rfl
@[simp] theorem State.setSession_dwq (l : Link) (x : Option Session) : (s.setSession l x).dwq = s.dwq := rfl
@[simp] theorem State.setSession_watches (l : Link) (x : Option Session) : (s.setSession l x).watches = s.watches := rfl
@[simp] theorem State.setSession_queues (l : Link) (x : Option Session) : (s.setSession l x).queues = s.queues := rfl
@[simp] theorem State.setSession_queuePointer (l : Link) (x : Option Session) : (s.setSession l x).queuePointer = s.queuePointer := rfl
@[simp] theorem State.setSession_queueLines (l : Link) (x : Option Session) : (s.setSession l x).queueLines = s.queueLines := rfl
@[simp] theorem State.setSession_forwardPosts (l : Link) (x : Option Session) : (s.setSession l x).forwardPosts = s.forwardPosts := rfl
@[simp] theorem State.setSession_faults (l : Link) (x : Option Session) : (s.setSession l x).faults = s.faults := rfl
@[simp] theorem State.setSession_links (l : Link) (x : Option Session) : (s.setSession l x).links = s.links := rfl
@[simp] theorem State.setSession_hubState (l : Link) (x : Option Session) : (s.setSession l x).hubState = s.hubState := rfl
@[simp] theorem State.setSession_resetRequest (l : Link) (x : Option Session) : (s.setSession l x).resetRequest = s.resetRequest := rfl
@[simp] theorem State.setSession_admin (l : Link) (x : Option Session) : (s.setSession l x).admin = s.admin := rfl
@[simp] theorem State.setSession_config (l : Link) (x : Option Session) : (s.setSession l x).config = s.config := rfl
@[simp] theorem State.setSession_clock (l : Link) (x : Option Session) : (s.setSession l x).clock = s.clock := rfl
@[simp] theorem State.setSession_unreported (l : Link) (x : Option Session) : (s.setSession l x).unreported = s.unreported := rfl
@[simp] theorem State.setSession_latestCell (l : Link) (x : Option Session) : (s.setSession l x).latestCell = s.latestCell := rfl
@[simp] theorem State.setSession_counters (l : Link) (x : Option Session) : (s.setSession l x).counters = s.counters := rfl
@[simp] theorem State.setSession_pending (l : Link) (x : Option Session) : (s.setSession l x).pending = s.pending := rfl
@[simp] theorem State.setSession_freeSeed (l : Link) (x : Option Session) : (s.setSession l x).freeSeed = s.freeSeed := rfl
@[simp] theorem State.setSession_link (l : Link) (x : Option Session) (i : Link) : (s.setSession l x).link i = s.link i := rfl
@[simp] theorem State.setSession_entry (l : Link) (x : Option Session) (i : Link) : (s.setSession l x).entry i = s.entry i := rfl
@[simp] theorem State.setSession_faultRecord (l : Link) (x : Option Session) (i : Link) : (s.setSession l x).faultRecord i = s.faultRecord i := rfl
@[simp] theorem State.setSession_cellLine (l : Link) (x : Option Session) (i : Link) : (s.setSession l x).cellLine i = s.cellLine i := rfl
@[simp] theorem State.setSession_queueLine (l : Link) (x : Option Session) (i : Link) : (s.setSession l x).queueLine i = s.queueLine i := rfl
@[simp] theorem State.setSession_cell (l : Link) (x : Option Session) (i : CellIx) : (s.setSession l x).cell i = s.cell i := rfl
@[simp] theorem State.setSession_queue (l : Link) (x : Option Session) (i : QueueIx) : (s.setSession l x).queue i = s.queue i := rfl

/-! ### State.setEntry -/

@[simp] theorem State.setEntry_rstn (l : Link) (e : Entry) : (s.setEntry l e).rstn = s.rstn := rfl
@[simp] theorem State.setEntry_lineRate (l : Link) (e : Entry) : (s.setEntry l e).lineRate = s.lineRate := rfl
@[simp] theorem State.setEntry_cells (l : Link) (e : Entry) : (s.setEntry l e).cells = s.cells := rfl
@[simp] theorem State.setEntry_modifications (l : Link) (e : Entry) : (s.setEntry l e).modifications = s.modifications := rfl
@[simp] theorem State.setEntry_cellPointer (l : Link) (e : Entry) : (s.setEntry l e).cellPointer = s.cellPointer := rfl
@[simp] theorem State.setEntry_cellLines (l : Link) (e : Entry) : (s.setEntry l e).cellLines = s.cellLines := rfl
@[simp] theorem State.setEntry_drains (l : Link) (e : Entry) : (s.setEntry l e).drains = s.drains := rfl
@[simp] theorem State.setEntry_draining (l : Link) (e : Entry) : (s.setEntry l e).draining = s.draining := rfl
@[simp] theorem State.setEntry_scrubbing (l : Link) (e : Entry) : (s.setEntry l e).scrubbing = s.scrubbing := rfl
@[simp] theorem State.setEntry_holds (l : Link) (e : Entry) : (s.setEntry l e).holds = s.holds := rfl
@[simp] theorem State.setEntry_dwq (l : Link) (e : Entry) : (s.setEntry l e).dwq = s.dwq := rfl
@[simp] theorem State.setEntry_watches (l : Link) (e : Entry) : (s.setEntry l e).watches = s.watches := rfl
@[simp] theorem State.setEntry_queues (l : Link) (e : Entry) : (s.setEntry l e).queues = s.queues := rfl
@[simp] theorem State.setEntry_queuePointer (l : Link) (e : Entry) : (s.setEntry l e).queuePointer = s.queuePointer := rfl
@[simp] theorem State.setEntry_queueLines (l : Link) (e : Entry) : (s.setEntry l e).queueLines = s.queueLines := rfl
@[simp] theorem State.setEntry_forwardPosts (l : Link) (e : Entry) : (s.setEntry l e).forwardPosts = s.forwardPosts := rfl
@[simp] theorem State.setEntry_faults (l : Link) (e : Entry) : (s.setEntry l e).faults = s.faults := rfl
@[simp] theorem State.setEntry_sessions (l : Link) (e : Entry) : (s.setEntry l e).sessions = s.sessions := rfl
@[simp] theorem State.setEntry_links (l : Link) (e : Entry) : (s.setEntry l e).links = s.links := rfl
@[simp] theorem State.setEntry_hubState (l : Link) (e : Entry) : (s.setEntry l e).hubState = s.hubState := rfl
@[simp] theorem State.setEntry_resetRequest (l : Link) (e : Entry) : (s.setEntry l e).resetRequest = s.resetRequest := rfl
@[simp] theorem State.setEntry_admin (l : Link) (e : Entry) : (s.setEntry l e).admin = s.admin := rfl
@[simp] theorem State.setEntry_config (l : Link) (e : Entry) : (s.setEntry l e).config = s.config := rfl
@[simp] theorem State.setEntry_clock (l : Link) (e : Entry) : (s.setEntry l e).clock = s.clock := rfl
@[simp] theorem State.setEntry_unreported (l : Link) (e : Entry) : (s.setEntry l e).unreported = s.unreported := rfl
@[simp] theorem State.setEntry_latestCell (l : Link) (e : Entry) : (s.setEntry l e).latestCell = s.latestCell := rfl
@[simp] theorem State.setEntry_counters (l : Link) (e : Entry) : (s.setEntry l e).counters = s.counters := rfl
@[simp] theorem State.setEntry_pending (l : Link) (e : Entry) : (s.setEntry l e).pending = s.pending := rfl
@[simp] theorem State.setEntry_freeSeed (l : Link) (e : Entry) : (s.setEntry l e).freeSeed = s.freeSeed := rfl
@[simp] theorem State.setEntry_link (l : Link) (e : Entry) (i : Link) : (s.setEntry l e).link i = s.link i := rfl
@[simp] theorem State.setEntry_session (l : Link) (e : Entry) (i : Link) : (s.setEntry l e).session i = s.session i := rfl
@[simp] theorem State.setEntry_faultRecord (l : Link) (e : Entry) (i : Link) : (s.setEntry l e).faultRecord i = s.faultRecord i := rfl
@[simp] theorem State.setEntry_cellLine (l : Link) (e : Entry) (i : Link) : (s.setEntry l e).cellLine i = s.cellLine i := rfl
@[simp] theorem State.setEntry_queueLine (l : Link) (e : Entry) (i : Link) : (s.setEntry l e).queueLine i = s.queueLine i := rfl
@[simp] theorem State.setEntry_cell (l : Link) (e : Entry) (i : CellIx) : (s.setEntry l e).cell i = s.cell i := rfl
@[simp] theorem State.setEntry_queue (l : Link) (e : Entry) (i : QueueIx) : (s.setEntry l e).queue i = s.queue i := rfl

/-! ### State.setFaultRecord -/

@[simp] theorem State.setFaultRecord_rstn (l : Link) (r : FaultRecord) : (s.setFaultRecord l r).rstn = s.rstn := rfl
@[simp] theorem State.setFaultRecord_lineRate (l : Link) (r : FaultRecord) : (s.setFaultRecord l r).lineRate = s.lineRate := rfl
@[simp] theorem State.setFaultRecord_cells (l : Link) (r : FaultRecord) : (s.setFaultRecord l r).cells = s.cells := rfl
@[simp] theorem State.setFaultRecord_modifications (l : Link) (r : FaultRecord) : (s.setFaultRecord l r).modifications = s.modifications := rfl
@[simp] theorem State.setFaultRecord_cellPointer (l : Link) (r : FaultRecord) : (s.setFaultRecord l r).cellPointer = s.cellPointer := rfl
@[simp] theorem State.setFaultRecord_cellLines (l : Link) (r : FaultRecord) : (s.setFaultRecord l r).cellLines = s.cellLines := rfl
@[simp] theorem State.setFaultRecord_drains (l : Link) (r : FaultRecord) : (s.setFaultRecord l r).drains = s.drains := rfl
@[simp] theorem State.setFaultRecord_draining (l : Link) (r : FaultRecord) : (s.setFaultRecord l r).draining = s.draining := rfl
@[simp] theorem State.setFaultRecord_scrubbing (l : Link) (r : FaultRecord) : (s.setFaultRecord l r).scrubbing = s.scrubbing := rfl
@[simp] theorem State.setFaultRecord_entries (l : Link) (r : FaultRecord) : (s.setFaultRecord l r).entries = s.entries := rfl
@[simp] theorem State.setFaultRecord_holds (l : Link) (r : FaultRecord) : (s.setFaultRecord l r).holds = s.holds := rfl
@[simp] theorem State.setFaultRecord_dwq (l : Link) (r : FaultRecord) : (s.setFaultRecord l r).dwq = s.dwq := rfl
@[simp] theorem State.setFaultRecord_watches (l : Link) (r : FaultRecord) : (s.setFaultRecord l r).watches = s.watches := rfl
@[simp] theorem State.setFaultRecord_queues (l : Link) (r : FaultRecord) : (s.setFaultRecord l r).queues = s.queues := rfl
@[simp] theorem State.setFaultRecord_queuePointer (l : Link) (r : FaultRecord) : (s.setFaultRecord l r).queuePointer = s.queuePointer := rfl
@[simp] theorem State.setFaultRecord_queueLines (l : Link) (r : FaultRecord) : (s.setFaultRecord l r).queueLines = s.queueLines := rfl
@[simp] theorem State.setFaultRecord_forwardPosts (l : Link) (r : FaultRecord) : (s.setFaultRecord l r).forwardPosts = s.forwardPosts := rfl
@[simp] theorem State.setFaultRecord_sessions (l : Link) (r : FaultRecord) : (s.setFaultRecord l r).sessions = s.sessions := rfl
@[simp] theorem State.setFaultRecord_links (l : Link) (r : FaultRecord) : (s.setFaultRecord l r).links = s.links := rfl
@[simp] theorem State.setFaultRecord_hubState (l : Link) (r : FaultRecord) : (s.setFaultRecord l r).hubState = s.hubState := rfl
@[simp] theorem State.setFaultRecord_resetRequest (l : Link) (r : FaultRecord) : (s.setFaultRecord l r).resetRequest = s.resetRequest := rfl
@[simp] theorem State.setFaultRecord_admin (l : Link) (r : FaultRecord) : (s.setFaultRecord l r).admin = s.admin := rfl
@[simp] theorem State.setFaultRecord_config (l : Link) (r : FaultRecord) : (s.setFaultRecord l r).config = s.config := rfl
@[simp] theorem State.setFaultRecord_clock (l : Link) (r : FaultRecord) : (s.setFaultRecord l r).clock = s.clock := rfl
@[simp] theorem State.setFaultRecord_unreported (l : Link) (r : FaultRecord) : (s.setFaultRecord l r).unreported = s.unreported := rfl
@[simp] theorem State.setFaultRecord_latestCell (l : Link) (r : FaultRecord) : (s.setFaultRecord l r).latestCell = s.latestCell := rfl
@[simp] theorem State.setFaultRecord_counters (l : Link) (r : FaultRecord) : (s.setFaultRecord l r).counters = s.counters := rfl
@[simp] theorem State.setFaultRecord_pending (l : Link) (r : FaultRecord) : (s.setFaultRecord l r).pending = s.pending := rfl
@[simp] theorem State.setFaultRecord_freeSeed (l : Link) (r : FaultRecord) : (s.setFaultRecord l r).freeSeed = s.freeSeed := rfl
@[simp] theorem State.setFaultRecord_link (l : Link) (r : FaultRecord) (i : Link) : (s.setFaultRecord l r).link i = s.link i := rfl
@[simp] theorem State.setFaultRecord_session (l : Link) (r : FaultRecord) (i : Link) : (s.setFaultRecord l r).session i = s.session i := rfl
@[simp] theorem State.setFaultRecord_entry (l : Link) (r : FaultRecord) (i : Link) : (s.setFaultRecord l r).entry i = s.entry i := rfl
@[simp] theorem State.setFaultRecord_cellLine (l : Link) (r : FaultRecord) (i : Link) : (s.setFaultRecord l r).cellLine i = s.cellLine i := rfl
@[simp] theorem State.setFaultRecord_queueLine (l : Link) (r : FaultRecord) (i : Link) : (s.setFaultRecord l r).queueLine i = s.queueLine i := rfl
@[simp] theorem State.setFaultRecord_cell (l : Link) (r : FaultRecord) (i : CellIx) : (s.setFaultRecord l r).cell i = s.cell i := rfl
@[simp] theorem State.setFaultRecord_queue (l : Link) (r : FaultRecord) (i : QueueIx) : (s.setFaultRecord l r).queue i = s.queue i := rfl

/-! ### State.setCellLine -/

@[simp] theorem State.setCellLine_rstn (l : Link) (ws : List Waiting) : (s.setCellLine l ws).rstn = s.rstn := rfl
@[simp] theorem State.setCellLine_lineRate (l : Link) (ws : List Waiting) : (s.setCellLine l ws).lineRate = s.lineRate := rfl
@[simp] theorem State.setCellLine_cells (l : Link) (ws : List Waiting) : (s.setCellLine l ws).cells = s.cells := rfl
@[simp] theorem State.setCellLine_modifications (l : Link) (ws : List Waiting) : (s.setCellLine l ws).modifications = s.modifications := rfl
@[simp] theorem State.setCellLine_cellPointer (l : Link) (ws : List Waiting) : (s.setCellLine l ws).cellPointer = s.cellPointer := rfl
@[simp] theorem State.setCellLine_drains (l : Link) (ws : List Waiting) : (s.setCellLine l ws).drains = s.drains := rfl
@[simp] theorem State.setCellLine_draining (l : Link) (ws : List Waiting) : (s.setCellLine l ws).draining = s.draining := rfl
@[simp] theorem State.setCellLine_scrubbing (l : Link) (ws : List Waiting) : (s.setCellLine l ws).scrubbing = s.scrubbing := rfl
@[simp] theorem State.setCellLine_entries (l : Link) (ws : List Waiting) : (s.setCellLine l ws).entries = s.entries := rfl
@[simp] theorem State.setCellLine_holds (l : Link) (ws : List Waiting) : (s.setCellLine l ws).holds = s.holds := rfl
@[simp] theorem State.setCellLine_dwq (l : Link) (ws : List Waiting) : (s.setCellLine l ws).dwq = s.dwq := rfl
@[simp] theorem State.setCellLine_watches (l : Link) (ws : List Waiting) : (s.setCellLine l ws).watches = s.watches := rfl
@[simp] theorem State.setCellLine_queues (l : Link) (ws : List Waiting) : (s.setCellLine l ws).queues = s.queues := rfl
@[simp] theorem State.setCellLine_queuePointer (l : Link) (ws : List Waiting) : (s.setCellLine l ws).queuePointer = s.queuePointer := rfl
@[simp] theorem State.setCellLine_queueLines (l : Link) (ws : List Waiting) : (s.setCellLine l ws).queueLines = s.queueLines := rfl
@[simp] theorem State.setCellLine_forwardPosts (l : Link) (ws : List Waiting) : (s.setCellLine l ws).forwardPosts = s.forwardPosts := rfl
@[simp] theorem State.setCellLine_faults (l : Link) (ws : List Waiting) : (s.setCellLine l ws).faults = s.faults := rfl
@[simp] theorem State.setCellLine_sessions (l : Link) (ws : List Waiting) : (s.setCellLine l ws).sessions = s.sessions := rfl
@[simp] theorem State.setCellLine_links (l : Link) (ws : List Waiting) : (s.setCellLine l ws).links = s.links := rfl
@[simp] theorem State.setCellLine_hubState (l : Link) (ws : List Waiting) : (s.setCellLine l ws).hubState = s.hubState := rfl
@[simp] theorem State.setCellLine_resetRequest (l : Link) (ws : List Waiting) : (s.setCellLine l ws).resetRequest = s.resetRequest := rfl
@[simp] theorem State.setCellLine_admin (l : Link) (ws : List Waiting) : (s.setCellLine l ws).admin = s.admin := rfl
@[simp] theorem State.setCellLine_config (l : Link) (ws : List Waiting) : (s.setCellLine l ws).config = s.config := rfl
@[simp] theorem State.setCellLine_clock (l : Link) (ws : List Waiting) : (s.setCellLine l ws).clock = s.clock := rfl
@[simp] theorem State.setCellLine_unreported (l : Link) (ws : List Waiting) : (s.setCellLine l ws).unreported = s.unreported := rfl
@[simp] theorem State.setCellLine_latestCell (l : Link) (ws : List Waiting) : (s.setCellLine l ws).latestCell = s.latestCell := rfl
@[simp] theorem State.setCellLine_counters (l : Link) (ws : List Waiting) : (s.setCellLine l ws).counters = s.counters := rfl
@[simp] theorem State.setCellLine_pending (l : Link) (ws : List Waiting) : (s.setCellLine l ws).pending = s.pending := rfl
@[simp] theorem State.setCellLine_freeSeed (l : Link) (ws : List Waiting) : (s.setCellLine l ws).freeSeed = s.freeSeed := rfl
@[simp] theorem State.setCellLine_link (l : Link) (ws : List Waiting) (i : Link) : (s.setCellLine l ws).link i = s.link i := rfl
@[simp] theorem State.setCellLine_session (l : Link) (ws : List Waiting) (i : Link) : (s.setCellLine l ws).session i = s.session i := rfl
@[simp] theorem State.setCellLine_entry (l : Link) (ws : List Waiting) (i : Link) : (s.setCellLine l ws).entry i = s.entry i := rfl
@[simp] theorem State.setCellLine_faultRecord (l : Link) (ws : List Waiting) (i : Link) : (s.setCellLine l ws).faultRecord i = s.faultRecord i := rfl
@[simp] theorem State.setCellLine_queueLine (l : Link) (ws : List Waiting) (i : Link) : (s.setCellLine l ws).queueLine i = s.queueLine i := rfl
@[simp] theorem State.setCellLine_cell (l : Link) (ws : List Waiting) (i : CellIx) : (s.setCellLine l ws).cell i = s.cell i := rfl
@[simp] theorem State.setCellLine_queue (l : Link) (ws : List Waiting) (i : QueueIx) : (s.setCellLine l ws).queue i = s.queue i := rfl

/-! ### State.setQueueLine -/

@[simp] theorem State.setQueueLine_rstn (l : Link) (ws : List Waiting) : (s.setQueueLine l ws).rstn = s.rstn := rfl
@[simp] theorem State.setQueueLine_lineRate (l : Link) (ws : List Waiting) : (s.setQueueLine l ws).lineRate = s.lineRate := rfl
@[simp] theorem State.setQueueLine_cells (l : Link) (ws : List Waiting) : (s.setQueueLine l ws).cells = s.cells := rfl
@[simp] theorem State.setQueueLine_modifications (l : Link) (ws : List Waiting) : (s.setQueueLine l ws).modifications = s.modifications := rfl
@[simp] theorem State.setQueueLine_cellPointer (l : Link) (ws : List Waiting) : (s.setQueueLine l ws).cellPointer = s.cellPointer := rfl
@[simp] theorem State.setQueueLine_cellLines (l : Link) (ws : List Waiting) : (s.setQueueLine l ws).cellLines = s.cellLines := rfl
@[simp] theorem State.setQueueLine_drains (l : Link) (ws : List Waiting) : (s.setQueueLine l ws).drains = s.drains := rfl
@[simp] theorem State.setQueueLine_draining (l : Link) (ws : List Waiting) : (s.setQueueLine l ws).draining = s.draining := rfl
@[simp] theorem State.setQueueLine_scrubbing (l : Link) (ws : List Waiting) : (s.setQueueLine l ws).scrubbing = s.scrubbing := rfl
@[simp] theorem State.setQueueLine_entries (l : Link) (ws : List Waiting) : (s.setQueueLine l ws).entries = s.entries := rfl
@[simp] theorem State.setQueueLine_holds (l : Link) (ws : List Waiting) : (s.setQueueLine l ws).holds = s.holds := rfl
@[simp] theorem State.setQueueLine_dwq (l : Link) (ws : List Waiting) : (s.setQueueLine l ws).dwq = s.dwq := rfl
@[simp] theorem State.setQueueLine_watches (l : Link) (ws : List Waiting) : (s.setQueueLine l ws).watches = s.watches := rfl
@[simp] theorem State.setQueueLine_queues (l : Link) (ws : List Waiting) : (s.setQueueLine l ws).queues = s.queues := rfl
@[simp] theorem State.setQueueLine_queuePointer (l : Link) (ws : List Waiting) : (s.setQueueLine l ws).queuePointer = s.queuePointer := rfl
@[simp] theorem State.setQueueLine_forwardPosts (l : Link) (ws : List Waiting) : (s.setQueueLine l ws).forwardPosts = s.forwardPosts := rfl
@[simp] theorem State.setQueueLine_faults (l : Link) (ws : List Waiting) : (s.setQueueLine l ws).faults = s.faults := rfl
@[simp] theorem State.setQueueLine_sessions (l : Link) (ws : List Waiting) : (s.setQueueLine l ws).sessions = s.sessions := rfl
@[simp] theorem State.setQueueLine_links (l : Link) (ws : List Waiting) : (s.setQueueLine l ws).links = s.links := rfl
@[simp] theorem State.setQueueLine_hubState (l : Link) (ws : List Waiting) : (s.setQueueLine l ws).hubState = s.hubState := rfl
@[simp] theorem State.setQueueLine_resetRequest (l : Link) (ws : List Waiting) : (s.setQueueLine l ws).resetRequest = s.resetRequest := rfl
@[simp] theorem State.setQueueLine_admin (l : Link) (ws : List Waiting) : (s.setQueueLine l ws).admin = s.admin := rfl
@[simp] theorem State.setQueueLine_config (l : Link) (ws : List Waiting) : (s.setQueueLine l ws).config = s.config := rfl
@[simp] theorem State.setQueueLine_clock (l : Link) (ws : List Waiting) : (s.setQueueLine l ws).clock = s.clock := rfl
@[simp] theorem State.setQueueLine_unreported (l : Link) (ws : List Waiting) : (s.setQueueLine l ws).unreported = s.unreported := rfl
@[simp] theorem State.setQueueLine_latestCell (l : Link) (ws : List Waiting) : (s.setQueueLine l ws).latestCell = s.latestCell := rfl
@[simp] theorem State.setQueueLine_counters (l : Link) (ws : List Waiting) : (s.setQueueLine l ws).counters = s.counters := rfl
@[simp] theorem State.setQueueLine_pending (l : Link) (ws : List Waiting) : (s.setQueueLine l ws).pending = s.pending := rfl
@[simp] theorem State.setQueueLine_freeSeed (l : Link) (ws : List Waiting) : (s.setQueueLine l ws).freeSeed = s.freeSeed := rfl
@[simp] theorem State.setQueueLine_link (l : Link) (ws : List Waiting) (i : Link) : (s.setQueueLine l ws).link i = s.link i := rfl
@[simp] theorem State.setQueueLine_session (l : Link) (ws : List Waiting) (i : Link) : (s.setQueueLine l ws).session i = s.session i := rfl
@[simp] theorem State.setQueueLine_entry (l : Link) (ws : List Waiting) (i : Link) : (s.setQueueLine l ws).entry i = s.entry i := rfl
@[simp] theorem State.setQueueLine_faultRecord (l : Link) (ws : List Waiting) (i : Link) : (s.setQueueLine l ws).faultRecord i = s.faultRecord i := rfl
@[simp] theorem State.setQueueLine_cellLine (l : Link) (ws : List Waiting) (i : Link) : (s.setQueueLine l ws).cellLine i = s.cellLine i := rfl
@[simp] theorem State.setQueueLine_cell (l : Link) (ws : List Waiting) (i : CellIx) : (s.setQueueLine l ws).cell i = s.cell i := rfl
@[simp] theorem State.setQueueLine_queue (l : Link) (ws : List Waiting) (i : QueueIx) : (s.setQueueLine l ws).queue i = s.queue i := rfl

/-! ### State.setCell -/

@[simp] theorem State.setCell_rstn (c : CellIx) (x : Cell) : (s.setCell c x).rstn = s.rstn := rfl
@[simp] theorem State.setCell_lineRate (c : CellIx) (x : Cell) : (s.setCell c x).lineRate = s.lineRate := rfl
@[simp] theorem State.setCell_modifications (c : CellIx) (x : Cell) : (s.setCell c x).modifications = s.modifications := rfl
@[simp] theorem State.setCell_cellPointer (c : CellIx) (x : Cell) : (s.setCell c x).cellPointer = s.cellPointer := rfl
@[simp] theorem State.setCell_cellLines (c : CellIx) (x : Cell) : (s.setCell c x).cellLines = s.cellLines := rfl
@[simp] theorem State.setCell_drains (c : CellIx) (x : Cell) : (s.setCell c x).drains = s.drains := rfl
@[simp] theorem State.setCell_draining (c : CellIx) (x : Cell) : (s.setCell c x).draining = s.draining := rfl
@[simp] theorem State.setCell_scrubbing (c : CellIx) (x : Cell) : (s.setCell c x).scrubbing = s.scrubbing := rfl
@[simp] theorem State.setCell_entries (c : CellIx) (x : Cell) : (s.setCell c x).entries = s.entries := rfl
@[simp] theorem State.setCell_holds (c : CellIx) (x : Cell) : (s.setCell c x).holds = s.holds := rfl
@[simp] theorem State.setCell_dwq (c : CellIx) (x : Cell) : (s.setCell c x).dwq = s.dwq := rfl
@[simp] theorem State.setCell_watches (c : CellIx) (x : Cell) : (s.setCell c x).watches = s.watches := rfl
@[simp] theorem State.setCell_queues (c : CellIx) (x : Cell) : (s.setCell c x).queues = s.queues := rfl
@[simp] theorem State.setCell_queuePointer (c : CellIx) (x : Cell) : (s.setCell c x).queuePointer = s.queuePointer := rfl
@[simp] theorem State.setCell_queueLines (c : CellIx) (x : Cell) : (s.setCell c x).queueLines = s.queueLines := rfl
@[simp] theorem State.setCell_forwardPosts (c : CellIx) (x : Cell) : (s.setCell c x).forwardPosts = s.forwardPosts := rfl
@[simp] theorem State.setCell_faults (c : CellIx) (x : Cell) : (s.setCell c x).faults = s.faults := rfl
@[simp] theorem State.setCell_sessions (c : CellIx) (x : Cell) : (s.setCell c x).sessions = s.sessions := rfl
@[simp] theorem State.setCell_links (c : CellIx) (x : Cell) : (s.setCell c x).links = s.links := rfl
@[simp] theorem State.setCell_hubState (c : CellIx) (x : Cell) : (s.setCell c x).hubState = s.hubState := rfl
@[simp] theorem State.setCell_resetRequest (c : CellIx) (x : Cell) : (s.setCell c x).resetRequest = s.resetRequest := rfl
@[simp] theorem State.setCell_admin (c : CellIx) (x : Cell) : (s.setCell c x).admin = s.admin := rfl
@[simp] theorem State.setCell_config (c : CellIx) (x : Cell) : (s.setCell c x).config = s.config := rfl
@[simp] theorem State.setCell_clock (c : CellIx) (x : Cell) : (s.setCell c x).clock = s.clock := rfl
@[simp] theorem State.setCell_unreported (c : CellIx) (x : Cell) : (s.setCell c x).unreported = s.unreported := rfl
@[simp] theorem State.setCell_latestCell (c : CellIx) (x : Cell) : (s.setCell c x).latestCell = s.latestCell := rfl
@[simp] theorem State.setCell_counters (c : CellIx) (x : Cell) : (s.setCell c x).counters = s.counters := rfl
@[simp] theorem State.setCell_pending (c : CellIx) (x : Cell) : (s.setCell c x).pending = s.pending := rfl
@[simp] theorem State.setCell_freeSeed (c : CellIx) (x : Cell) : (s.setCell c x).freeSeed = s.freeSeed := rfl
@[simp] theorem State.setCell_link (c : CellIx) (x : Cell) (i : Link) : (s.setCell c x).link i = s.link i := rfl
@[simp] theorem State.setCell_session (c : CellIx) (x : Cell) (i : Link) : (s.setCell c x).session i = s.session i := rfl
@[simp] theorem State.setCell_entry (c : CellIx) (x : Cell) (i : Link) : (s.setCell c x).entry i = s.entry i := rfl
@[simp] theorem State.setCell_faultRecord (c : CellIx) (x : Cell) (i : Link) : (s.setCell c x).faultRecord i = s.faultRecord i := rfl
@[simp] theorem State.setCell_cellLine (c : CellIx) (x : Cell) (i : Link) : (s.setCell c x).cellLine i = s.cellLine i := rfl
@[simp] theorem State.setCell_queueLine (c : CellIx) (x : Cell) (i : Link) : (s.setCell c x).queueLine i = s.queueLine i := rfl
@[simp] theorem State.setCell_queue (c : CellIx) (x : Cell) (i : QueueIx) : (s.setCell c x).queue i = s.queue i := rfl

/-! ### State.setQueue -/

@[simp] theorem State.setQueue_rstn (q : QueueIx) (d : Queue) : (s.setQueue q d).rstn = s.rstn := rfl
@[simp] theorem State.setQueue_lineRate (q : QueueIx) (d : Queue) : (s.setQueue q d).lineRate = s.lineRate := rfl
@[simp] theorem State.setQueue_cells (q : QueueIx) (d : Queue) : (s.setQueue q d).cells = s.cells := rfl
@[simp] theorem State.setQueue_modifications (q : QueueIx) (d : Queue) : (s.setQueue q d).modifications = s.modifications := rfl
@[simp] theorem State.setQueue_cellPointer (q : QueueIx) (d : Queue) : (s.setQueue q d).cellPointer = s.cellPointer := rfl
@[simp] theorem State.setQueue_cellLines (q : QueueIx) (d : Queue) : (s.setQueue q d).cellLines = s.cellLines := rfl
@[simp] theorem State.setQueue_drains (q : QueueIx) (d : Queue) : (s.setQueue q d).drains = s.drains := rfl
@[simp] theorem State.setQueue_draining (q : QueueIx) (d : Queue) : (s.setQueue q d).draining = s.draining := rfl
@[simp] theorem State.setQueue_scrubbing (q : QueueIx) (d : Queue) : (s.setQueue q d).scrubbing = s.scrubbing := rfl
@[simp] theorem State.setQueue_entries (q : QueueIx) (d : Queue) : (s.setQueue q d).entries = s.entries := rfl
@[simp] theorem State.setQueue_holds (q : QueueIx) (d : Queue) : (s.setQueue q d).holds = s.holds := rfl
@[simp] theorem State.setQueue_dwq (q : QueueIx) (d : Queue) : (s.setQueue q d).dwq = s.dwq := rfl
@[simp] theorem State.setQueue_watches (q : QueueIx) (d : Queue) : (s.setQueue q d).watches = s.watches := rfl
@[simp] theorem State.setQueue_queuePointer (q : QueueIx) (d : Queue) : (s.setQueue q d).queuePointer = s.queuePointer := rfl
@[simp] theorem State.setQueue_queueLines (q : QueueIx) (d : Queue) : (s.setQueue q d).queueLines = s.queueLines := rfl
@[simp] theorem State.setQueue_forwardPosts (q : QueueIx) (d : Queue) : (s.setQueue q d).forwardPosts = s.forwardPosts := rfl
@[simp] theorem State.setQueue_faults (q : QueueIx) (d : Queue) : (s.setQueue q d).faults = s.faults := rfl
@[simp] theorem State.setQueue_sessions (q : QueueIx) (d : Queue) : (s.setQueue q d).sessions = s.sessions := rfl
@[simp] theorem State.setQueue_links (q : QueueIx) (d : Queue) : (s.setQueue q d).links = s.links := rfl
@[simp] theorem State.setQueue_hubState (q : QueueIx) (d : Queue) : (s.setQueue q d).hubState = s.hubState := rfl
@[simp] theorem State.setQueue_resetRequest (q : QueueIx) (d : Queue) : (s.setQueue q d).resetRequest = s.resetRequest := rfl
@[simp] theorem State.setQueue_admin (q : QueueIx) (d : Queue) : (s.setQueue q d).admin = s.admin := rfl
@[simp] theorem State.setQueue_config (q : QueueIx) (d : Queue) : (s.setQueue q d).config = s.config := rfl
@[simp] theorem State.setQueue_clock (q : QueueIx) (d : Queue) : (s.setQueue q d).clock = s.clock := rfl
@[simp] theorem State.setQueue_unreported (q : QueueIx) (d : Queue) : (s.setQueue q d).unreported = s.unreported := rfl
@[simp] theorem State.setQueue_latestCell (q : QueueIx) (d : Queue) : (s.setQueue q d).latestCell = s.latestCell := rfl
@[simp] theorem State.setQueue_counters (q : QueueIx) (d : Queue) : (s.setQueue q d).counters = s.counters := rfl
@[simp] theorem State.setQueue_pending (q : QueueIx) (d : Queue) : (s.setQueue q d).pending = s.pending := rfl
@[simp] theorem State.setQueue_freeSeed (q : QueueIx) (d : Queue) : (s.setQueue q d).freeSeed = s.freeSeed := rfl
@[simp] theorem State.setQueue_link (q : QueueIx) (d : Queue) (i : Link) : (s.setQueue q d).link i = s.link i := rfl
@[simp] theorem State.setQueue_session (q : QueueIx) (d : Queue) (i : Link) : (s.setQueue q d).session i = s.session i := rfl
@[simp] theorem State.setQueue_entry (q : QueueIx) (d : Queue) (i : Link) : (s.setQueue q d).entry i = s.entry i := rfl
@[simp] theorem State.setQueue_faultRecord (q : QueueIx) (d : Queue) (i : Link) : (s.setQueue q d).faultRecord i = s.faultRecord i := rfl
@[simp] theorem State.setQueue_cellLine (q : QueueIx) (d : Queue) (i : Link) : (s.setQueue q d).cellLine i = s.cellLine i := rfl
@[simp] theorem State.setQueue_queueLine (q : QueueIx) (d : Queue) (i : Link) : (s.setQueue q d).queueLine i = s.queueLine i := rfl
@[simp] theorem State.setQueue_cell (q : QueueIx) (d : Queue) (i : CellIx) : (s.setQueue q d).cell i = s.cell i := rfl

/-! ### State.removeQueue -/

@[simp] theorem State.removeQueue_rstn (q : QueueIx) : (s.removeQueue q).rstn = s.rstn := rfl
@[simp] theorem State.removeQueue_lineRate (q : QueueIx) : (s.removeQueue q).lineRate = s.lineRate := rfl
@[simp] theorem State.removeQueue_cells (q : QueueIx) : (s.removeQueue q).cells = s.cells := rfl
@[simp] theorem State.removeQueue_modifications (q : QueueIx) : (s.removeQueue q).modifications = s.modifications := rfl
@[simp] theorem State.removeQueue_cellPointer (q : QueueIx) : (s.removeQueue q).cellPointer = s.cellPointer := rfl
@[simp] theorem State.removeQueue_cellLines (q : QueueIx) : (s.removeQueue q).cellLines = s.cellLines := rfl
@[simp] theorem State.removeQueue_drains (q : QueueIx) : (s.removeQueue q).drains = s.drains := rfl
@[simp] theorem State.removeQueue_draining (q : QueueIx) : (s.removeQueue q).draining = s.draining := rfl
@[simp] theorem State.removeQueue_scrubbing (q : QueueIx) : (s.removeQueue q).scrubbing = s.scrubbing := rfl
@[simp] theorem State.removeQueue_entries (q : QueueIx) : (s.removeQueue q).entries = s.entries := rfl
@[simp] theorem State.removeQueue_holds (q : QueueIx) : (s.removeQueue q).holds = s.holds := rfl
@[simp] theorem State.removeQueue_dwq (q : QueueIx) : (s.removeQueue q).dwq = s.dwq := rfl
@[simp] theorem State.removeQueue_watches (q : QueueIx) : (s.removeQueue q).watches = s.watches := rfl
@[simp] theorem State.removeQueue_queuePointer (q : QueueIx) : (s.removeQueue q).queuePointer = s.queuePointer := rfl
@[simp] theorem State.removeQueue_queueLines (q : QueueIx) : (s.removeQueue q).queueLines = s.queueLines := rfl
@[simp] theorem State.removeQueue_forwardPosts (q : QueueIx) : (s.removeQueue q).forwardPosts = s.forwardPosts := rfl
@[simp] theorem State.removeQueue_faults (q : QueueIx) : (s.removeQueue q).faults = s.faults := rfl
@[simp] theorem State.removeQueue_sessions (q : QueueIx) : (s.removeQueue q).sessions = s.sessions := rfl
@[simp] theorem State.removeQueue_links (q : QueueIx) : (s.removeQueue q).links = s.links := rfl
@[simp] theorem State.removeQueue_hubState (q : QueueIx) : (s.removeQueue q).hubState = s.hubState := rfl
@[simp] theorem State.removeQueue_resetRequest (q : QueueIx) : (s.removeQueue q).resetRequest = s.resetRequest := rfl
@[simp] theorem State.removeQueue_admin (q : QueueIx) : (s.removeQueue q).admin = s.admin := rfl
@[simp] theorem State.removeQueue_config (q : QueueIx) : (s.removeQueue q).config = s.config := rfl
@[simp] theorem State.removeQueue_clock (q : QueueIx) : (s.removeQueue q).clock = s.clock := rfl
@[simp] theorem State.removeQueue_unreported (q : QueueIx) : (s.removeQueue q).unreported = s.unreported := rfl
@[simp] theorem State.removeQueue_latestCell (q : QueueIx) : (s.removeQueue q).latestCell = s.latestCell := rfl
@[simp] theorem State.removeQueue_counters (q : QueueIx) : (s.removeQueue q).counters = s.counters := rfl
@[simp] theorem State.removeQueue_pending (q : QueueIx) : (s.removeQueue q).pending = s.pending := rfl
@[simp] theorem State.removeQueue_freeSeed (q : QueueIx) : (s.removeQueue q).freeSeed = s.freeSeed := rfl
@[simp] theorem State.removeQueue_link (q : QueueIx) (i : Link) : (s.removeQueue q).link i = s.link i := rfl
@[simp] theorem State.removeQueue_session (q : QueueIx) (i : Link) : (s.removeQueue q).session i = s.session i := rfl
@[simp] theorem State.removeQueue_entry (q : QueueIx) (i : Link) : (s.removeQueue q).entry i = s.entry i := rfl
@[simp] theorem State.removeQueue_faultRecord (q : QueueIx) (i : Link) : (s.removeQueue q).faultRecord i = s.faultRecord i := rfl
@[simp] theorem State.removeQueue_cellLine (q : QueueIx) (i : Link) : (s.removeQueue q).cellLine i = s.cellLine i := rfl
@[simp] theorem State.removeQueue_queueLine (q : QueueIx) (i : Link) : (s.removeQueue q).queueLine i = s.queueLine i := rfl
@[simp] theorem State.removeQueue_cell (q : QueueIx) (i : CellIx) : (s.removeQueue q).cell i = s.cell i := rfl

/-! ### State.placeReply -/

@[simp] theorem State.placeReply_rstn (l : Link) (r : Reply) : (s.placeReply l r).rstn = s.rstn := rfl
@[simp] theorem State.placeReply_lineRate (l : Link) (r : Reply) : (s.placeReply l r).lineRate = s.lineRate := rfl
@[simp] theorem State.placeReply_cells (l : Link) (r : Reply) : (s.placeReply l r).cells = s.cells := rfl
@[simp] theorem State.placeReply_modifications (l : Link) (r : Reply) : (s.placeReply l r).modifications = s.modifications := rfl
@[simp] theorem State.placeReply_cellPointer (l : Link) (r : Reply) : (s.placeReply l r).cellPointer = s.cellPointer := rfl
@[simp] theorem State.placeReply_cellLines (l : Link) (r : Reply) : (s.placeReply l r).cellLines = s.cellLines := rfl
@[simp] theorem State.placeReply_drains (l : Link) (r : Reply) : (s.placeReply l r).drains = s.drains := rfl
@[simp] theorem State.placeReply_draining (l : Link) (r : Reply) : (s.placeReply l r).draining = s.draining := rfl
@[simp] theorem State.placeReply_scrubbing (l : Link) (r : Reply) : (s.placeReply l r).scrubbing = s.scrubbing := rfl
@[simp] theorem State.placeReply_entries (l : Link) (r : Reply) : (s.placeReply l r).entries = s.entries := rfl
@[simp] theorem State.placeReply_holds (l : Link) (r : Reply) : (s.placeReply l r).holds = s.holds := rfl
@[simp] theorem State.placeReply_dwq (l : Link) (r : Reply) : (s.placeReply l r).dwq = s.dwq := rfl
@[simp] theorem State.placeReply_watches (l : Link) (r : Reply) : (s.placeReply l r).watches = s.watches := rfl
@[simp] theorem State.placeReply_queues (l : Link) (r : Reply) : (s.placeReply l r).queues = s.queues := rfl
@[simp] theorem State.placeReply_queuePointer (l : Link) (r : Reply) : (s.placeReply l r).queuePointer = s.queuePointer := rfl
@[simp] theorem State.placeReply_queueLines (l : Link) (r : Reply) : (s.placeReply l r).queueLines = s.queueLines := rfl
@[simp] theorem State.placeReply_forwardPosts (l : Link) (r : Reply) : (s.placeReply l r).forwardPosts = s.forwardPosts := rfl
@[simp] theorem State.placeReply_faults (l : Link) (r : Reply) : (s.placeReply l r).faults = s.faults := rfl
@[simp] theorem State.placeReply_sessions (l : Link) (r : Reply) : (s.placeReply l r).sessions = s.sessions := rfl
@[simp] theorem State.placeReply_hubState (l : Link) (r : Reply) : (s.placeReply l r).hubState = s.hubState := rfl
@[simp] theorem State.placeReply_resetRequest (l : Link) (r : Reply) : (s.placeReply l r).resetRequest = s.resetRequest := rfl
@[simp] theorem State.placeReply_admin (l : Link) (r : Reply) : (s.placeReply l r).admin = s.admin := rfl
@[simp] theorem State.placeReply_config (l : Link) (r : Reply) : (s.placeReply l r).config = s.config := rfl
@[simp] theorem State.placeReply_clock (l : Link) (r : Reply) : (s.placeReply l r).clock = s.clock := rfl
@[simp] theorem State.placeReply_unreported (l : Link) (r : Reply) : (s.placeReply l r).unreported = s.unreported := rfl
@[simp] theorem State.placeReply_latestCell (l : Link) (r : Reply) : (s.placeReply l r).latestCell = s.latestCell := rfl
@[simp] theorem State.placeReply_counters (l : Link) (r : Reply) : (s.placeReply l r).counters = s.counters := rfl
@[simp] theorem State.placeReply_pending (l : Link) (r : Reply) : (s.placeReply l r).pending = s.pending := rfl
@[simp] theorem State.placeReply_freeSeed (l : Link) (r : Reply) : (s.placeReply l r).freeSeed = s.freeSeed := rfl
@[simp] theorem State.placeReply_session (l : Link) (r : Reply) (i : Link) : (s.placeReply l r).session i = s.session i := rfl
@[simp] theorem State.placeReply_entry (l : Link) (r : Reply) (i : Link) : (s.placeReply l r).entry i = s.entry i := rfl
@[simp] theorem State.placeReply_faultRecord (l : Link) (r : Reply) (i : Link) : (s.placeReply l r).faultRecord i = s.faultRecord i := rfl
@[simp] theorem State.placeReply_cellLine (l : Link) (r : Reply) (i : Link) : (s.placeReply l r).cellLine i = s.cellLine i := rfl
@[simp] theorem State.placeReply_queueLine (l : Link) (r : Reply) (i : Link) : (s.placeReply l r).queueLine i = s.queueLine i := rfl
@[simp] theorem State.placeReply_cell (l : Link) (r : Reply) (i : CellIx) : (s.placeReply l r).cell i = s.cell i := rfl
@[simp] theorem State.placeReply_queue (l : Link) (r : Reply) (i : QueueIx) : (s.placeReply l r).queue i = s.queue i := rfl

/-! ### State.updReports -/

@[simp] theorem State.updReports_rstn (l : Link) (f : PendingReports → PendingReports) : (s.updReports l f).rstn = s.rstn := rfl
@[simp] theorem State.updReports_lineRate (l : Link) (f : PendingReports → PendingReports) : (s.updReports l f).lineRate = s.lineRate := rfl
@[simp] theorem State.updReports_cells (l : Link) (f : PendingReports → PendingReports) : (s.updReports l f).cells = s.cells := rfl
@[simp] theorem State.updReports_modifications (l : Link) (f : PendingReports → PendingReports) : (s.updReports l f).modifications = s.modifications := rfl
@[simp] theorem State.updReports_cellPointer (l : Link) (f : PendingReports → PendingReports) : (s.updReports l f).cellPointer = s.cellPointer := rfl
@[simp] theorem State.updReports_cellLines (l : Link) (f : PendingReports → PendingReports) : (s.updReports l f).cellLines = s.cellLines := rfl
@[simp] theorem State.updReports_drains (l : Link) (f : PendingReports → PendingReports) : (s.updReports l f).drains = s.drains := rfl
@[simp] theorem State.updReports_draining (l : Link) (f : PendingReports → PendingReports) : (s.updReports l f).draining = s.draining := rfl
@[simp] theorem State.updReports_scrubbing (l : Link) (f : PendingReports → PendingReports) : (s.updReports l f).scrubbing = s.scrubbing := rfl
@[simp] theorem State.updReports_entries (l : Link) (f : PendingReports → PendingReports) : (s.updReports l f).entries = s.entries := rfl
@[simp] theorem State.updReports_holds (l : Link) (f : PendingReports → PendingReports) : (s.updReports l f).holds = s.holds := rfl
@[simp] theorem State.updReports_dwq (l : Link) (f : PendingReports → PendingReports) : (s.updReports l f).dwq = s.dwq := rfl
@[simp] theorem State.updReports_watches (l : Link) (f : PendingReports → PendingReports) : (s.updReports l f).watches = s.watches := rfl
@[simp] theorem State.updReports_queues (l : Link) (f : PendingReports → PendingReports) : (s.updReports l f).queues = s.queues := rfl
@[simp] theorem State.updReports_queuePointer (l : Link) (f : PendingReports → PendingReports) : (s.updReports l f).queuePointer = s.queuePointer := rfl
@[simp] theorem State.updReports_queueLines (l : Link) (f : PendingReports → PendingReports) : (s.updReports l f).queueLines = s.queueLines := rfl
@[simp] theorem State.updReports_forwardPosts (l : Link) (f : PendingReports → PendingReports) : (s.updReports l f).forwardPosts = s.forwardPosts := rfl
@[simp] theorem State.updReports_faults (l : Link) (f : PendingReports → PendingReports) : (s.updReports l f).faults = s.faults := rfl
@[simp] theorem State.updReports_sessions (l : Link) (f : PendingReports → PendingReports) : (s.updReports l f).sessions = s.sessions := rfl
@[simp] theorem State.updReports_hubState (l : Link) (f : PendingReports → PendingReports) : (s.updReports l f).hubState = s.hubState := rfl
@[simp] theorem State.updReports_resetRequest (l : Link) (f : PendingReports → PendingReports) : (s.updReports l f).resetRequest = s.resetRequest := rfl
@[simp] theorem State.updReports_admin (l : Link) (f : PendingReports → PendingReports) : (s.updReports l f).admin = s.admin := rfl
@[simp] theorem State.updReports_config (l : Link) (f : PendingReports → PendingReports) : (s.updReports l f).config = s.config := rfl
@[simp] theorem State.updReports_clock (l : Link) (f : PendingReports → PendingReports) : (s.updReports l f).clock = s.clock := rfl
@[simp] theorem State.updReports_unreported (l : Link) (f : PendingReports → PendingReports) : (s.updReports l f).unreported = s.unreported := rfl
@[simp] theorem State.updReports_latestCell (l : Link) (f : PendingReports → PendingReports) : (s.updReports l f).latestCell = s.latestCell := rfl
@[simp] theorem State.updReports_counters (l : Link) (f : PendingReports → PendingReports) : (s.updReports l f).counters = s.counters := rfl
@[simp] theorem State.updReports_pending (l : Link) (f : PendingReports → PendingReports) : (s.updReports l f).pending = s.pending := rfl
@[simp] theorem State.updReports_freeSeed (l : Link) (f : PendingReports → PendingReports) : (s.updReports l f).freeSeed = s.freeSeed := rfl
@[simp] theorem State.updReports_session (l : Link) (f : PendingReports → PendingReports) (i : Link) : (s.updReports l f).session i = s.session i := rfl
@[simp] theorem State.updReports_entry (l : Link) (f : PendingReports → PendingReports) (i : Link) : (s.updReports l f).entry i = s.entry i := rfl
@[simp] theorem State.updReports_faultRecord (l : Link) (f : PendingReports → PendingReports) (i : Link) : (s.updReports l f).faultRecord i = s.faultRecord i := rfl
@[simp] theorem State.updReports_cellLine (l : Link) (f : PendingReports → PendingReports) (i : Link) : (s.updReports l f).cellLine i = s.cellLine i := rfl
@[simp] theorem State.updReports_queueLine (l : Link) (f : PendingReports → PendingReports) (i : Link) : (s.updReports l f).queueLine i = s.queueLine i := rfl
@[simp] theorem State.updReports_cell (l : Link) (f : PendingReports → PendingReports) (i : CellIx) : (s.updReports l f).cell i = s.cell i := rfl
@[simp] theorem State.updReports_queue (l : Link) (f : PendingReports → PendingReports) (i : QueueIx) : (s.updReports l f).queue i = s.queue i := rfl

/-! ### State.countError -/

@[simp] theorem State.countError_rstn (l : Link) (k : CounterName) : (s.countError l k).rstn = s.rstn := rfl
@[simp] theorem State.countError_lineRate (l : Link) (k : CounterName) : (s.countError l k).lineRate = s.lineRate := rfl
@[simp] theorem State.countError_cells (l : Link) (k : CounterName) : (s.countError l k).cells = s.cells := rfl
@[simp] theorem State.countError_modifications (l : Link) (k : CounterName) : (s.countError l k).modifications = s.modifications := rfl
@[simp] theorem State.countError_cellPointer (l : Link) (k : CounterName) : (s.countError l k).cellPointer = s.cellPointer := rfl
@[simp] theorem State.countError_cellLines (l : Link) (k : CounterName) : (s.countError l k).cellLines = s.cellLines := rfl
@[simp] theorem State.countError_drains (l : Link) (k : CounterName) : (s.countError l k).drains = s.drains := rfl
@[simp] theorem State.countError_draining (l : Link) (k : CounterName) : (s.countError l k).draining = s.draining := rfl
@[simp] theorem State.countError_scrubbing (l : Link) (k : CounterName) : (s.countError l k).scrubbing = s.scrubbing := rfl
@[simp] theorem State.countError_entries (l : Link) (k : CounterName) : (s.countError l k).entries = s.entries := rfl
@[simp] theorem State.countError_holds (l : Link) (k : CounterName) : (s.countError l k).holds = s.holds := rfl
@[simp] theorem State.countError_dwq (l : Link) (k : CounterName) : (s.countError l k).dwq = s.dwq := rfl
@[simp] theorem State.countError_watches (l : Link) (k : CounterName) : (s.countError l k).watches = s.watches := rfl
@[simp] theorem State.countError_queues (l : Link) (k : CounterName) : (s.countError l k).queues = s.queues := rfl
@[simp] theorem State.countError_queuePointer (l : Link) (k : CounterName) : (s.countError l k).queuePointer = s.queuePointer := rfl
@[simp] theorem State.countError_queueLines (l : Link) (k : CounterName) : (s.countError l k).queueLines = s.queueLines := rfl
@[simp] theorem State.countError_forwardPosts (l : Link) (k : CounterName) : (s.countError l k).forwardPosts = s.forwardPosts := rfl
@[simp] theorem State.countError_faults (l : Link) (k : CounterName) : (s.countError l k).faults = s.faults := rfl
@[simp] theorem State.countError_sessions (l : Link) (k : CounterName) : (s.countError l k).sessions = s.sessions := rfl
@[simp] theorem State.countError_hubState (l : Link) (k : CounterName) : (s.countError l k).hubState = s.hubState := rfl
@[simp] theorem State.countError_resetRequest (l : Link) (k : CounterName) : (s.countError l k).resetRequest = s.resetRequest := rfl
@[simp] theorem State.countError_admin (l : Link) (k : CounterName) : (s.countError l k).admin = s.admin := rfl
@[simp] theorem State.countError_config (l : Link) (k : CounterName) : (s.countError l k).config = s.config := rfl
@[simp] theorem State.countError_clock (l : Link) (k : CounterName) : (s.countError l k).clock = s.clock := rfl
@[simp] theorem State.countError_unreported (l : Link) (k : CounterName) : (s.countError l k).unreported = s.unreported := rfl
@[simp] theorem State.countError_latestCell (l : Link) (k : CounterName) : (s.countError l k).latestCell = s.latestCell := rfl
@[simp] theorem State.countError_counters (l : Link) (k : CounterName) : (s.countError l k).counters = s.counters := rfl
@[simp] theorem State.countError_pending (l : Link) (k : CounterName) : (s.countError l k).pending = s.pending := rfl
@[simp] theorem State.countError_freeSeed (l : Link) (k : CounterName) : (s.countError l k).freeSeed = s.freeSeed := rfl
@[simp] theorem State.countError_session (l : Link) (k : CounterName) (i : Link) : (s.countError l k).session i = s.session i := rfl
@[simp] theorem State.countError_entry (l : Link) (k : CounterName) (i : Link) : (s.countError l k).entry i = s.entry i := rfl
@[simp] theorem State.countError_faultRecord (l : Link) (k : CounterName) (i : Link) : (s.countError l k).faultRecord i = s.faultRecord i := rfl
@[simp] theorem State.countError_cellLine (l : Link) (k : CounterName) (i : Link) : (s.countError l k).cellLine i = s.cellLine i := rfl
@[simp] theorem State.countError_queueLine (l : Link) (k : CounterName) (i : Link) : (s.countError l k).queueLine i = s.queueLine i := rfl
@[simp] theorem State.countError_cell (l : Link) (k : CounterName) (i : CellIx) : (s.countError l k).cell i = s.cell i := rfl
@[simp] theorem State.countError_queue (l : Link) (k : CounterName) (i : QueueIx) : (s.countError l k).queue i = s.queue i := rfl

/-! The count of one millisecond changes the clock alone. -/

@[simp] theorem State.count_clock : s.count.clock = s.clock + 1 := rfl
@[simp] theorem State.count_rstn : s.count.rstn = s.rstn := rfl
@[simp] theorem State.count_lineRate : s.count.lineRate = s.lineRate := rfl
@[simp] theorem State.count_cells : s.count.cells = s.cells := rfl
@[simp] theorem State.count_modifications : s.count.modifications = s.modifications := rfl
@[simp] theorem State.count_cellPointer : s.count.cellPointer = s.cellPointer := rfl
@[simp] theorem State.count_cellLines : s.count.cellLines = s.cellLines := rfl
@[simp] theorem State.count_drains : s.count.drains = s.drains := rfl
@[simp] theorem State.count_draining : s.count.draining = s.draining := rfl
@[simp] theorem State.count_scrubbing : s.count.scrubbing = s.scrubbing := rfl
@[simp] theorem State.count_entries : s.count.entries = s.entries := rfl
@[simp] theorem State.count_holds : s.count.holds = s.holds := rfl
@[simp] theorem State.count_dwq : s.count.dwq = s.dwq := rfl
@[simp] theorem State.count_watches : s.count.watches = s.watches := rfl
@[simp] theorem State.count_queues : s.count.queues = s.queues := rfl
@[simp] theorem State.count_queuePointer : s.count.queuePointer = s.queuePointer := rfl
@[simp] theorem State.count_queueLines : s.count.queueLines = s.queueLines := rfl
@[simp] theorem State.count_forwardPosts : s.count.forwardPosts = s.forwardPosts := rfl
@[simp] theorem State.count_faults : s.count.faults = s.faults := rfl
@[simp] theorem State.count_sessions : s.count.sessions = s.sessions := rfl
@[simp] theorem State.count_links : s.count.links = s.links := rfl
@[simp] theorem State.count_hubState : s.count.hubState = s.hubState := rfl
@[simp] theorem State.count_resetRequest : s.count.resetRequest = s.resetRequest := rfl
@[simp] theorem State.count_admin : s.count.admin = s.admin := rfl
@[simp] theorem State.count_config : s.count.config = s.config := rfl
@[simp] theorem State.count_unreported : s.count.unreported = s.unreported := rfl
@[simp] theorem State.count_latestCell : s.count.latestCell = s.latestCell := rfl
@[simp] theorem State.count_counters : s.count.counters = s.counters := rfl
@[simp] theorem State.count_pending : s.count.pending = s.pending := rfl
@[simp] theorem State.count_freeSeed : s.count.freeSeed = s.freeSeed := rfl

end Sys2Proof.Machine
end

