-- ==== Sys2Proof/Laws/Tables.lean ====
section
/-! SUPPORT. Read after write for the tables of eight links and for the sparse tables, and the canonical form of the cell store. -/

namespace Sys2Proof.Machine

/-! ## Tables of eight -/

@[simp] theorem getAt_setAt_same {α : Type} {n : Nat} (t : Vector α n) (i : Fin n) (x : α) : getAt (setAt t i x) i = x := by
  simp [getAt, setAt]

theorem getAt_setAt_ne {α : Type} {n : Nat} (t : Vector α n) {i j : Fin n} (h : j ≠ i) (x : α) :
    getAt (setAt t i x) j = getAt t j := by
  have : i.val ≠ j.val := fun e => h (Fin.ext e.symm)
  simp [getAt, setAt, Vector.getElem_set_ne, this]

theorem getAt_setAt {α : Type} {n : Nat} (t : Vector α n) (i j : Fin n) (x : α) :
    getAt (setAt t i x) j = if j = i then x else getAt t j := by
  split
  · next h => subst h; exact getAt_setAt_same t j x
  · next h => exact getAt_setAt_ne t h x

@[simp] theorem setAt_setAt {α : Type} {n : Nat} (t : Vector α n) (i : Fin n) (x y : α) : setAt (setAt t i x) i y = setAt t i y := by
  simp [setAt]

@[simp] theorem setAt_getAt {α : Type} {n : Nat} (t : Vector α n) (i : Fin n) : setAt t i (getAt t i) = t := by
  simp [setAt, getAt]

@[simp] theorem getAt_replicate {α : Type} {n : Nat} (x : α) (i : Fin n) : getAt (Vector.replicate n x) i = x := by
  simp [getAt]

@[simp] theorem getAt_mapLinks {α β : Type} (f : Link → α → β) (t : Vector α 8) (l : Link) :
    getAt (mapLinks f t) l = f l (getAt t l) := by
  revert l; rw [Fin.forall_fin_succ]; refine ⟨rfl, ?_⟩
  intro i; fin_cases i <;> rfl

theorem mem_allLinks (l : Link) : l ∈ allLinks := by
  revert l; decide

/-! ## Sparse tables -/

theorem findAt_putAt {α : Type} {n : Nat} (t : List (Fin n × α)) (i j : Fin n) (x : α) :
    findAt (putAt t i x) j = if j = i then some x else findAt t j := by
  induction t with
  | nil => simp [putAt, findAt, eq_comm]
  | cons e t ih =>
    obtain ⟨k, y⟩ := e
    by_cases h1 : i < k
    · by_cases h : j = i
      · subst h; simp [putAt, h1, findAt]
      · simp [putAt, h1, findAt, h, Ne.symm h]
    · by_cases h2 : k = i
      · subst h2
        by_cases h : j = k
        · subst h; simp [putAt, findAt]
        · simp [putAt, findAt, h, Ne.symm h]
      · simp only [putAt, h1, h2, if_false, findAt, ih]
        by_cases h : j = i
        · subst h; simp [h2]
        · simp [h]

theorem findAt_dropAt {α : Type} {n : Nat} (t : List (Fin n × α)) (i j : Fin n) :
    findAt (dropAt t i) j = if j = i then none else findAt t j := by
  induction t with
  | nil => simp [dropAt, findAt]
  | cons e t ih =>
    obtain ⟨k, y⟩ := e
    simp only [dropAt] at ih ⊢
    by_cases h2 : k = i
    · subst h2
      by_cases h : j = k
      · subst h; simpa [findAt] using ih
      · simpa [findAt, h, Ne.symm h] using ih
    · by_cases h : k = j
      · subst h; simp [findAt, h2]
      · simpa [findAt, h2, h] using ih

/-- The indices of a table strictly rise. -/
def Rising {α : Type} {n : Nat} (t : List (Fin n × α)) : Prop := t.Pairwise (fun a b => a.1 < b.1)

theorem mem_putAt {α : Type} {n : Nat} {t : List (Fin n × α)} {i : Fin n} {x : α} {e : Fin n × α} (h : e ∈ putAt t i x) :
    e = (i, x) ∨ e ∈ t := by
  induction t with
  | nil => simpa [putAt] using h
  | cons f t ih =>
    obtain ⟨k, y⟩ := f
    simp only [putAt] at h
    split at h
    · simpa using h
    · split at h
      · rcases List.mem_cons.mp h with h | h
        · exact .inl h
        · exact .inr (List.mem_cons_of_mem _ h)
      · rcases List.mem_cons.mp h with h | h
        · exact .inr (h ▸ List.mem_cons_self)
        · exact (ih h).imp id (List.mem_cons_of_mem _)

theorem putAt_rising {α : Type} {n : Nat} {t : List (Fin n × α)} (h : Rising t) (i : Fin n) (x : α) : Rising (putAt t i x) := by
  induction t with
  | nil => simp [putAt, Rising]
  | cons f t ih =>
    obtain ⟨k, y⟩ := f
    have hk : ∀ e ∈ t, k < e.1 := (List.pairwise_cons.mp h).1
    have ht : Rising t := (List.pairwise_cons.mp h).2
    simp only [putAt]
    split
    · next h1 =>
      refine List.pairwise_cons.mpr ⟨?_, h⟩
      intro e he
      rcases List.mem_cons.mp he with he | he
      · subst he; exact h1
      · exact lt_trans h1 (hk e he)
    · next h1 =>
      split
      · next h2 => subst h2; exact List.pairwise_cons.mpr ⟨hk, ht⟩
      · next h2 =>
        refine List.pairwise_cons.mpr ⟨?_, ih ht⟩
        intro e he
        rcases mem_putAt he with rfl | he
        · exact lt_of_le_of_ne (not_lt.mp h1) h2
        · exact hk e he

theorem dropAt_rising {α : Type} {n : Nat} {t : List (Fin n × α)} (h : Rising t) (i : Fin n) : Rising (dropAt t i) :=
  h.filter _

theorem mem_dropAt {α : Type} {n : Nat} {t : List (Fin n × α)} {i : Fin n} {e : Fin n × α} (h : e ∈ dropAt t i) : e ∈ t :=
  List.mem_of_mem_filter h

theorem findAt_mem {α : Type} {n : Nat} {t : List (Fin n × α)} {i : Fin n} {x : α} (h : findAt t i = some x) : (i, x) ∈ t := by
  induction t with
  | nil => simp [findAt] at h
  | cons f t ih =>
    obtain ⟨k, y⟩ := f
    simp only [findAt] at h
    split at h
    · next hk => subst hk; cases h; exact List.mem_cons_self
    · exact List.mem_cons_of_mem _ (ih h)

/-! ## Records of a state -/

@[simp] theorem State.updLink_link_same (s : State) (l : Link) (f : LinkUnit → LinkUnit) : (s.updLink l f).link l = f (s.link l) := by
  simp [State.updLink, State.link]

theorem State.updLink_link_ne (s : State) {l k : Link} (h : k ≠ l) (f : LinkUnit → LinkUnit) : (s.updLink l f).link k = s.link k := by
  simp [State.updLink, State.link, getAt_setAt_ne _ h]

@[simp] theorem State.setSession_session_same (s : State) (l : Link) (x : Option Session) : (s.setSession l x).session l = x := by
  simp [State.setSession, State.session]

theorem State.setSession_session_ne (s : State) {l k : Link} (h : k ≠ l) (x : Option Session) :
    (s.setSession l x).session k = s.session k := by
  simp [State.setSession, State.session, getAt_setAt_ne _ h]

@[simp] theorem State.setEntry_entry_same (s : State) (l : Link) (e : Entry) : (s.setEntry l e).entry l = e := by
  simp [State.setEntry, State.entry]

theorem State.setEntry_entry_ne (s : State) {l k : Link} (h : k ≠ l) (e : Entry) : (s.setEntry l e).entry k = s.entry k := by
  simp [State.setEntry, State.entry, getAt_setAt_ne _ h]

@[simp] theorem State.setFaultRecord_faultRecord_same (s : State) (l : Link) (r : FaultRecord) :
    (s.setFaultRecord l r).faultRecord l = r := by
  simp [State.setFaultRecord, State.faultRecord]

theorem State.setFaultRecord_faultRecord_ne (s : State) {l k : Link} (h : k ≠ l) (r : FaultRecord) :
    (s.setFaultRecord l r).faultRecord k = s.faultRecord k := by
  simp [State.setFaultRecord, State.faultRecord, getAt_setAt_ne _ h]

@[simp] theorem State.setCellLine_cellLine_same (s : State) (l : Link) (ws : List Waiting) : (s.setCellLine l ws).cellLine l = ws := by
  simp [State.setCellLine, State.cellLine]

theorem State.setCellLine_cellLine_ne (s : State) {l k : Link} (h : k ≠ l) (ws : List Waiting) :
    (s.setCellLine l ws).cellLine k = s.cellLine k := by
  simp [State.setCellLine, State.cellLine, getAt_setAt_ne _ h]

@[simp] theorem State.setQueueLine_queueLine_same (s : State) (l : Link) (ws : List Waiting) :
    (s.setQueueLine l ws).queueLine l = ws := by
  simp [State.setQueueLine, State.queueLine]

theorem State.setQueueLine_queueLine_ne (s : State) {l k : Link} (h : k ≠ l) (ws : List Waiting) :
    (s.setQueueLine l ws).queueLine k = s.queueLine k := by
  simp [State.setQueueLine, State.queueLine, getAt_setAt_ne _ h]

/-- Reading a cell after writing one. -/
theorem State.setCell_cell (s : State) (c k : CellIx) (x : Cell) : (s.setCell c x).cell k = if k = c then x else s.cell k := by
  unfold State.setCell State.cell
  by_cases hx : x = blankCell
  · simp only [hx, if_true, findAt_dropAt]; split <;> simp
  · simp only [hx, if_false, findAt_putAt]; split <;> simp

@[simp] theorem State.setCell_cell_same (s : State) (c : CellIx) (x : Cell) : (s.setCell c x).cell c = x := by
  simp [State.setCell_cell]

theorem State.setCell_cell_ne (s : State) {c k : CellIx} (h : k ≠ c) (x : Cell) : (s.setCell c x).cell k = s.cell k := by
  simp [State.setCell_cell, h]

/-- Reading a descriptor after writing one. -/
theorem State.setQueue_queue (s : State) (q k : QueueIx) (d : Queue) : (s.setQueue q d).queue k = if k = q then some d else s.queue k := by
  simp [State.setQueue, State.queue, findAt_putAt]

@[simp] theorem State.setQueue_queue_same (s : State) (q : QueueIx) (d : Queue) : (s.setQueue q d).queue q = some d := by
  simp [State.setQueue_queue]

theorem State.setQueue_queue_ne (s : State) {q k : QueueIx} (h : k ≠ q) (d : Queue) : (s.setQueue q d).queue k = s.queue k := by
  simp [State.setQueue_queue, h]

/-- Reading a descriptor after removing one. -/
theorem State.removeQueue_queue (s : State) (q k : QueueIx) : (s.removeQueue q).queue k = if k = q then none else s.queue k := by
  simp [State.removeQueue, State.queue, findAt_dropAt]

/-! ## The canonical form of the cell store -/

/-- Writing a cell record keeps the canonical form. -/
theorem State.setCell_cellsWf {s : State} (h : CellsWf s.cells) (c : CellIx) (x : Cell) : CellsWf (s.setCell c x).cells := by
  unfold State.setCell
  by_cases hx : x = blankCell
  · simp only [hx, if_true]
    exact ⟨dropAt_rising h.1 c, fun e he => h.2 e (mem_dropAt he)⟩
  · simp only [hx, if_false]
    refine ⟨putAt_rising h.1 c x, fun e he => ?_⟩
    rcases mem_putAt he with rfl | he
    · exact hx
    · exact h.2 e he

theorem cellsWf_nil : CellsWf [] := ⟨List.Pairwise.nil, by simp⟩

end Sys2Proof.Machine
end

