-- ==== Sys2Proof/Laws/Taking.lean ====
section
/-! SUPPORT. When nothing is due, settling does nothing; what a command of each block answers when its request is taken. -/

namespace Sys2Proof.Machine

/-- With no operation in progress, no forward post is pending and no drain is between two entries. -/
theorem State.inProgress_eq_false {s : State} : s.inProgress = false ↔ s.forwardPosts = [] ∧ s.draining = none := by
  simp [State.inProgress]

theorem State.resumeDrain_of_none {s : State} (h : s.draining = none) : s.resumeDrain = s := by
  simp [State.resumeDrain, h]

/-- The drain that a forward post interrupted goes on when its cell has another entry. -/
theorem State.pauseDrain_eq (s : State) (c : CellIx) :
    s.pauseDrain c = if ∃ e ∈ s.dwq, e.cell = c then { s with draining := some c } else s := by
  simp [State.pauseDrain]

theorem settlePosts_of_idle (n : Nat) {s : State} (h : s.inProgress = false) : settlePosts n s = s := by
  obtain ⟨hp, hd⟩ := State.inProgress_eq_false.mp h
  cases n <;> simp [settlePosts, State.resumeDrain_of_none hd, hp]

theorem State.finishOperation_of_idle {s : State} (h : s.inProgress = false) : s.finishOperation = s :=
  settlePosts_of_idle _ h

theorem State.finishClose_of_none {s : State} {l : Link} (h : s.closeDue l = none) : s.finishClose l = s := by
  simp [State.finishClose, h]

theorem State.foldl_finishClose {s : State} (ls : List Link) (h : ∀ l ∈ ls, s.closeDue l = none) :
    ls.foldl State.finishClose s = s := by
  induction ls with
  | nil => rfl
  | cons l ls ih =>
    rw [List.foldl_cons, State.finishClose_of_none (h l List.mem_cons_self)]
    exact ih fun k hk => h k (List.mem_cons_of_mem _ hk)

theorem State.settled_idle {s : State} (h : s.settled = true) : s.inProgress = false := by
  simp only [State.settled, Bool.and_eq_true] at h; simpa using h.1

theorem State.settled_posts {s : State} (h : s.settled = true) : s.forwardPosts = [] :=
  (State.inProgress_eq_false.mp (State.settled_idle h)).1

theorem State.settled_draining {s : State} (h : s.settled = true) : s.draining = none :=
  (State.inProgress_eq_false.mp (State.settled_idle h)).2

theorem State.settled_closeDue {s : State} (h : s.settled = true) (l : Link) : s.closeDue l = none := by
  simp only [State.settled, Bool.and_eq_true, List.all_eq_true] at h
  simpa using h.2 l (mem_allLinks l)

/-- When nothing is due, an event finds the state as it is. -/
theorem State.settle_of_settled {s : State} (h : s.settled = true) : s.settle = s := by
  unfold State.settle
  split
  · rfl
  · rw [State.finishOperation_of_idle (State.settled_idle h)]
    exact State.foldl_finishClose _ fun l _ => State.settled_closeDue h l

/-- A command of the cell-store arbiter whose request is taken. -/
theorem State.commandCell_of_takes {s : State} {l : Link} {tag : Tag} {r : Request} (h : s.takesCell l tag r) (f : State → State) :
    s.commandCell l tag r f = .next (f (s.cellTaken l)) := by
  have h2 : (s.cellLine l).head? = some ⟨tag, r⟩ := h.2.2
  simp only [State.commandCell, State.settle_of_settled h.1, State.takeCell, h.2.1, h2, and_self, if_true]
  rfl

/-- While a forward post is pending the arbiter can finish the request that the post says it was carrying out. -/
theorem State.insideTurn_of_post {s : State} {p : ForwardPost} {rest : List ForwardPost} (hp : s.forwardPosts = p :: rest)
    (hr : s.resetRequest = none) : s.insideTurn = p.carrying := by
  simp [State.insideTurn, hp, State.resetStands, hr]

/-- Between two entries of a drain the arbiter takes requests in their turn. -/
theorem State.insideTurn_of_draining {s : State} {c : CellIx} (hp : s.forwardPosts = []) (hd : s.draining = some c) :
    s.insideTurn = s.queueTurn := by
  simp [State.insideTurn, hp, hd]

/-- With no operation in progress the queue arbiter takes nothing inside one. -/
theorem State.takeInside_of_idle {s : State} (h : s.inProgress = false) (l : Link) (w : Waiting) : s.takeInside l w = none := by
  obtain ⟨hp, hd⟩ := State.inProgress_eq_false.mp h
  simp [State.takeInside, State.insideTurn, hp, hd]

/-- A command of the queue arbiter whose request is taken, between operations or inside one of another block. -/
theorem State.commandQueue_of_takes {s : State} {l : Link} {tag : Tag} {r : Request} (h : s.takesQueue l tag r) (f : State → State) :
    s.commandQueue l tag r f = .next (f (s.queueTaken l)) := by
  rcases h with ⟨h1, h2⟩ | ⟨h1, h2⟩
  · simp only [State.commandQueue, State.takeInside_of_idle (State.settled_idle h1), State.settle_of_settled h1, State.takeQueue, h2, if_true]
    have e : (s.forwardPosts.map fun p => { p with carrying := none }) = s.forwardPosts := by rw [State.settled_posts h1]; rfl
    unfold State.queueTaken
    rw [e]
    rfl
  · have h3 : (s.queueLine l).head? = some ⟨tag, r⟩ := h2
    simp only [State.commandQueue, State.takeInside, h1, h3, and_self, if_true]
    rfl

/-- A command of RSV or WCH whose request is taken. -/
theorem State.commandInOrder_of_takes {s : State} {l : Link} {tag : Tag} {r : Request} (h : s.takesInOrder l tag r) (f : State → State) :
    s.commandInOrder l tag r f = .next (f (s.orderTaken l)) := by
  have h1 : s.resetStands = false := by simp [State.resetStands, h.2.1]
  have h2 : (s.cellLine l).head? = some ⟨tag, r⟩ := h.2.2
  simp only [State.commandInOrder, State.settle_of_settled h.1, State.takeInOrder, h1, h2, and_self, if_true]
  rfl

/-- A command of SES, FLT or HUB whose request is taken. -/
theorem State.commandAtArrival_of_takes {s : State} {l : Link} {tag : Tag} {r : Request} (h : s.takesArrived l tag r)
    (f : State → State) : s.commandAtArrival l tag r f = .next ((f (s.arrivalTaken l)).route l) := by
  have h1 : s.resetStands = false := by simp [State.resetStands, h.2.1]
  have h2 := h.2.2.1
  have h3 := h.2.2.2
  simp only [State.commandAtArrival, State.settle_of_settled h.1, State.takeArrived, h1, h2, h3, and_self, if_true]
  rfl

/-- An answer is the reply placed, and nothing else. -/
theorem State.answer_eq_withReply (s : State) (l : Link) (tag : Tag) (kind : Byte) (status : Status) (fields : List Byte) :
    s.answer l tag kind status fields = s.withReply l ⟨replyKind kind, tag, status, fields⟩ := rfl

/-- While a reset request stands SES looks at nothing. -/
theorem State.route_of_reset {s : State} (h : s.resetStands = true) (l : Link) : s.route l = s := by
  simp [State.route, h]

/-- With no arrival waiting SES has nothing to look at. -/
theorem State.route_of_empty {s : State} {l : Link} (h : (s.link l).inbox = []) : s.route l = s := by
  simp [State.route, h, routeArrived]

/-- SES looks at the oldest arrival of a link, and, unless that stays to be taken, at the next ones. -/
theorem State.route_cons {s : State} {l : Link} {w : Waiting} {rest : List Waiting} (hr : s.resetStands = false)
    (hi : (s.link l).inbox = w :: rest) :
    s.route l =
      match s.verdict l w.request with
      | .stay => s
      | .handOn d => ((s.updLink l fun u => { u with inbox := rest }).handOn l w d).route l
      | .answer status => ((s.updLink l fun u => { u with inbox := rest }).answer l w.tag (requestKind w.request) status []).route l := by
  have key : ∀ t : State, t.resetStands = false → (t.link l).inbox = rest → routeArrived l rest t = t.route l := by
    intro t h1 h2
    simp [State.route, h1, h2]
  conv_lhs => rw [State.route, hr, hi]
  simp only [routeArrived, Bool.false_eq_true, if_false]
  cases s.verdict l w.request with
  | stay => rfl
  | handOn d => cases d <;> exact key _ hr (by simp [State.updLink, State.link, State.setCellLine, State.setQueueLine, State.handOn])
  | answer st => exact key _ hr (by simp [State.answer_eq_withReply, State.withReply, State.updLink, State.link, LinkUnit.answered])

end Sys2Proof.Machine
end

