-- ==== Sys2Proof/Laws/Operations.lean ====
section
/-! SUPPORT. What the shared operations of the cell store and its neighbours do, each said once. -/

namespace Sys2Proof.Machine

/-! ## Indices as frames carry them -/

@[simp] theorem cellOf_cellSubject (c : CellIx) : cellOf (cellSubject c) = some c := by
  unfold cellOf cellSubject
  have := c.isLt
  simp [Nat.mod_eq_of_lt (show c.val < 65536 by omega)]

@[simp] theorem queueOf_queueField (q : QueueIx) : queueOf (queueField q) = some q := by
  unfold queueOf queueField
  have := q.isLt
  simp [Nat.mod_eq_of_lt (show q.val < 256 by omega)]

theorem cellOf_of_large {c : Half} (h : 1023 < c.toNat) : cellOf c = none := by
  unfold cellOf; simp; omega

theorem queueOf_of_large {q : Byte} (h : 31 < q.toNat) : queueOf q = none := by
  unfold queueOf; simp; omega

/-! ## Cells of a changed state -/

theorem State.cell_congr {s t : State} (h : t.cells = s.cells) (c : CellIx) : t.cell c = s.cell c := by
  simp [State.cell, h]

theorem State.entry_congr {s t : State} (h : t.entries = s.entries) (l : Link) : t.entry l = s.entry l := by
  simp [State.entry, h]

theorem State.session_congr {s t : State} (h : t.sessions = s.sessions) (l : Link) : t.session l = s.session l := by
  simp [State.session, h]

theorem State.queue_congr {s t : State} (h : t.queues = s.queues) (q : QueueIx) : t.queue q = s.queue q := by
  simp [State.queue, h]

theorem State.faultRecord_congr {s t : State} (h : t.faults = s.faults) (l : Link) : t.faultRecord l = s.faultRecord l := by
  simp [State.faultRecord, h]

/-! ## Detections (R15, R145) -/

/-- Everything a detection changes: the cell, HUB's three fields, and the INTEGRITY entry of the admin's link. -/
theorem State.detect_eq (s : State) (c : CellIx) :
    s.detect c =
      { s with
        cells := (s.setCell c { s.cell c with poisoned := true, checkFails := false }).cells
        counters := { s.counters with detections := raiseDetections s.counters.detections }
        unreported := saturate Config.counterMax s.unreported
        latestCell := some c
        links := match s.admin with
          | some a => setAt s.links a { s.link a with reports := { (s.link a).reports with integrity := true } }
          | none => s.links } := by
  unfold State.detect
  cases s
  rename_i admin _ _ _ _ _ _ _
  cases admin <;> rfl

@[simp] theorem State.detect_cell_same (s : State) (c : CellIx) :
    (s.detect c).cell c = { s.cell c with poisoned := true, checkFails := false } := by
  rw [State.detect_eq]
  exact (State.cell_congr rfl c).trans (State.setCell_cell_same s c _)

theorem State.detect_cell_ne (s : State) {c k : CellIx} (h : k ≠ c) : (s.detect c).cell k = s.cell k := by
  rw [State.detect_eq]
  exact (State.cell_congr rfl k).trans (State.setCell_cell_ne s h _)

theorem State.detect_cellsWf {s : State} (h : CellsWf s.cells) (c : CellIx) : CellsWf (s.detect c).cells := by
  rw [State.detect_eq]; exact State.setCell_cellsWf h c _

theorem State.accessCell_good {s : State} {c : CellIx} (h1 : (s.cell c).poisoned = false) (h2 : (s.cell c).checkFails = false) :
    s.accessCell c = (none, s) := by
  simp [State.accessCell, h1, h2]

theorem State.accessCell_poisoned {s : State} {c : CellIx} (h : (s.cell c).poisoned = true) :
    s.accessCell c = (some .poisoned, s) := by
  simp [State.accessCell, h]

theorem State.accessCell_failing {s : State} {c : CellIx} (h1 : (s.cell c).poisoned = false) (h2 : (s.cell c).checkFails = true) :
    s.accessCell c = (some .detected, s.detect c) := by
  simp [State.accessCell, h1, h2]

/-- An access leaves the state as it is or makes one detection. -/
theorem State.accessCell_cases (s : State) (c : CellIx) :
    s.accessCell c = (none, s) ∨ s.accessCell c = (some .poisoned, s) ∨ s.accessCell c = (some .detected, s.detect c) := by
  unfold State.accessCell; split
  · exact .inr (.inl rfl)
  · split
    · exact .inr (.inr rfl)
    · exact .inl rfl

/-! ## Holds (R47) -/

theorem State.endHold_of_stands {s : State} {l : Link} {c : CellIx} (h : s.holds.any (isHoldOf l c) = true) :
    s.endHold l c =
      { s with
        holds := s.holds.map fun h => if isHoldOf l c h then { h with phase := .ended } else h
        drains := s.drains ++ [c] } := by
  simp [State.endHold, h]

theorem State.endHold_of_none {s : State} {l : Link} {c : CellIx} (h : s.holds.any (isHoldOf l c) = false) : s.endHold l c = s := by
  simp [State.endHold, h]

/-- Ending a hold touches the hold records and the pending drains alone. -/
theorem State.endHold_frame (s : State) (l : Link) (c : CellIx) :
    s.endHold l c = { s with holds := (s.endHold l c).holds, drains := (s.endHold l c).drains } := by
  unfold State.endHold; split <;> rfl

/-- The hold records after a hold was to end. -/
theorem State.endHold_holds (s : State) (l : Link) (c : CellIx) :
    (s.endHold l c).holds =
      if s.holds.any (isHoldOf l c) then s.holds.map fun h => if isHoldOf l c h then { h with phase := .ended } else h
      else s.holds := by
  by_cases h : s.holds.any (isHoldOf l c) = true <;> simp only [State.endHold, h] <;> rfl

/-- The pending drains after a hold was to end. -/
theorem State.endHold_drains (s : State) (l : Link) (c : CellIx) :
    (s.endHold l c).drains = if s.holds.any (isHoldOf l c) then s.drains ++ [c] else s.drains := by
  by_cases h : s.holds.any (isHoldOf l c) = true <;> simp only [State.endHold, h] <;> rfl

/-- A session that holds a cell has a STANDING record of it. -/
theorem State.any_isHoldOf_of_holderOf {s : State} {l : Link} {c : CellIx} (h : s.holderOf c = some l) :
    s.holds.any (isHoldOf l c) = true := by
  unfold State.holderOf at h
  cases hf : s.holds.find? (fun h => decide (h.cell = c) && h.stands) with
  | none => simp [hf] at h
  | some r =>
    rw [hf] at h
    have hr := List.find?_some hf
    have hm := List.mem_of_find?_eq_some hf
    have hl : r.holder = l := by simpa using h
    refine List.any_eq_true.mpr ⟨r, hm, ?_⟩
    simp only [Bool.and_eq_true, decide_eq_true_eq] at hr
    simp [isHoldOf, hr.1, hr.2, hl]

theorem State.heldByOther_eq_false {s : State} {l : Link} {c : CellIx} (h : s.heldByOther l c = false) :
    s.holderOf c = none ∨ s.holderOf c = some l := by
  unfold State.heldByOther at h
  cases hh : s.holderOf c with
  | none => exact .inl rfl
  | some k => right; simp [hh] at h; rw [h]

theorem State.consumeEntry_of_not_held {s : State} {l : Link} (h : ∀ c v, (s.entry l).reservation ≠ .held c v) :
    s.consumeEntry l = s.setEntry l { s.entry l with reservation := .none } := by
  unfold State.consumeEntry
  cases hr : (s.entry l).reservation with
  | held c v => exact absurd hr (h c v)
  | _ => simp

theorem State.consumeEntry_of_held {s : State} {l : Link} {c : CellIx} {v : Word} (h : (s.entry l).reservation = .held c v) :
    s.consumeEntry l = (s.setEntry l { s.entry l with reservation := .none }).endHold l c := by
  simp [State.consumeEntry, h]

/-! ## Modifications (R11, R33, R68) -/

theorem breakEntry_eq (c : CellIx) {committer : Option Link} {k : Link} (h : committer ≠ some k) (e : Entry) :
    breakEntry c committer k e = { e with reservation := brokenBy c e.reservation } := by
  obtain ⟨r, f⟩ := e
  cases r <;> simp [breakEntry, brokenBy, h] <;> split <;> simp_all

theorem notifyWatch_eq (c : CellIx) (l : Link) (w : Watch) : notifyWatch c l w = countedBy c l w := by
  obtain ⟨k, d, p⟩ := w
  unfold notifyWatch countedBy
  split
  · cases p with
    | none => simp
    | some n => by_cases h : n < 255 <;> simp [saturate, Config.coalescedMax, h]
  · rfl

/-- Breaking reservations touches the entries, the hold records and the pending drains alone. -/
theorem State.breakReservations_frame (s : State) (c : CellIx) (k : Option Link) :
    s.breakReservations c k =
      { s with
        entries := mapLinks (breakEntry c k) s.entries
        holds := (s.breakReservations c k).holds
        drains := (s.breakReservations c k).drains } := by
  unfold State.breakReservations
  dsimp only
  cases s.holderOf c with
  | none => rfl
  | some j => dsimp only; split <;> first | rfl | (rw [State.endHold_frame])

/-- Everything a modification changes. -/
theorem State.modify_frame (s : State) (c : CellIx) (v : Quad) (l : Link) (k : Option Link) :
    s.modify c v l k =
      { s with
        cells := (s.setCell c ((s.cell c).store v)).cells
        entries := mapLinks (breakEntry c k) s.entries
        holds := (s.modify c v l k).holds
        drains := (s.modify c v l k).drains
        watches := s.watches.map (notifyWatch c l)
        modifications := s.modifications + 1 } := by
  unfold State.modify
  dsimp only
  rw [State.breakReservations_frame]
  rfl

theorem State.breakReservations_holds (s : State) (c : CellIx) (k : Option Link) :
    (s.breakReservations c k).holds =
      match s.holderOf c with
      | some j => if k ≠ some j ∧ heldOn c (s.entry j) = true then (s.endHold j c).holds else s.holds
      | none => s.holds := by
  unfold State.breakReservations
  dsimp only
  cases s.holderOf c with
  | none => rfl
  | some j =>
    dsimp only
    by_cases hc : k ≠ some j ∧ heldOn c (s.entry j) = true
    · rw [if_pos hc, if_pos hc, State.endHold_holds, State.endHold_holds]
    · rw [if_neg hc, if_neg hc]

theorem State.breakReservations_drains (s : State) (c : CellIx) (k : Option Link) :
    (s.breakReservations c k).drains =
      match s.holderOf c with
      | some j => if k ≠ some j ∧ heldOn c (s.entry j) = true then (s.endHold j c).drains else s.drains
      | none => s.drains := by
  unfold State.breakReservations
  dsimp only
  cases s.holderOf c with
  | none => rfl
  | some j =>
    dsimp only
    by_cases hc : k ≠ some j ∧ heldOn c (s.entry j) = true
    · rw [if_pos hc, if_pos hc, State.endHold_drains, State.endHold_drains]
    · rw [if_neg hc, if_neg hc]

@[simp] theorem State.setCell_holderOf (s : State) (c k : CellIx) (x : Cell) : (s.setCell c x).holderOf k = s.holderOf k := rfl

/-- A modification ends the holds that breaking the reservations ends. -/
theorem State.modify_holds (s : State) (c : CellIx) (v : Quad) (l : Link) (k : Option Link) :
    (s.modify c v l k).holds = (s.breakReservations c k).holds ∧ (s.modify c v l k).drains = (s.breakReservations c k).drains := by
  unfold State.modify
  dsimp only [State.notifyWatches]
  rw [State.breakReservations_holds, State.breakReservations_holds, State.breakReservations_drains,
    State.breakReservations_drains]
  simp only [State.setCell_holderOf, State.setCell_entry, State.endHold_holds, State.endHold_drains, State.setCell_holds,
    State.setCell_drains]
  exact ⟨rfl, rfl⟩

theorem State.modify_cellsWf {s : State} (h : CellsWf s.cells) (c : CellIx) (v : Quad) (l : Link) (k : Option Link) :
    CellsWf (s.modify c v l k).cells := by
  rw [State.modify_frame]; exact State.setCell_cellsWf h c _

/-- The cell, the other cells, the entries, the watches and the count after a modification that consumes no entry. -/
theorem State.modify_spec (s : State) (c : CellIx) (v : Quad) (l : Link) : Modification s (s.modify c v l none) c v l none := by
  rw [State.modify_frame]
  refine ⟨?_, fun k hk => ?_, fun k _ => ?_, fun k hk => by simp at hk, ?_, rfl⟩
  · exact (State.cell_congr rfl c).trans (State.setCell_cell_same s c _)
  · exact (State.cell_congr rfl k).trans (State.setCell_cell_ne s hk _)
  · have : ∀ t : State, t.entries = mapLinks (breakEntry c none) s.entries → t.entry k = breakEntry c none k (s.entry k) := by
      intro t ht; simp [State.entry, ht]
    rw [this _ rfl, breakEntry_eq c (by simp)]
  · exact List.map_congr_left fun w _ => notifyWatch_eq c l w

theorem State.modify_holdsKept {s : State} {c : CellIx} (h : s.holderOf c = none) (v : Quad) (l : Link) (k : Option Link) :
    HoldsKept s (s.modify c v l k) := by
  have := State.modify_holds s c v l k
  simp only [State.breakReservations, h] at this
  exact ⟨this.1, this.2⟩

theorem State.modify_holdEnds {s : State} {c : CellIx} {l : Link} {w : Word} (h : s.holderOf c = some l)
    (he : (s.entry l).reservation = .held c w) (v : Quad) : HoldEnds s (s.modify c v l none) l c := by
  have hm := State.modify_holds s c v l none
  have ha := State.any_isHoldOf_of_holderOf h
  have hb : s.breakReservations c none =
      State.endHold { s with entries := mapLinks (breakEntry c none) s.entries } l c := by
    unfold State.breakReservations; dsimp only; rw [h]; simp [heldOn, he]
  rw [hb, State.endHold_of_stands (by simpa using ha)] at hm
  exact ⟨hm.1, hm.2⟩

end Sys2Proof.Machine
end

