-- ==== Sys2Proof/Laws/Frames.lean ====
section
/-! SUPPORT. What each shared operation of the fault unit, the queues, hub control, the session table and the transmitter can touch: one equation for
each, which gives back the state with those fields alone replaced. -/

namespace Sys2Proof.Machine

/-! ## Replies and reports -/

theorem State.placeReply_frame (s : State) (l : Link) (r : Reply) : s.placeReply l r = { s with links := (s.placeReply l r).links } := rfl

theorem State.answer_frame (s : State) (l : Link) (tag : Tag) (kind : Byte) (status : Status) (fields : List Byte) :
    s.answer l tag kind status fields = { s with links := (s.answer l tag kind status fields).links } := rfl

theorem State.updReports_frame (s : State) (l : Link) (f : PendingReports → PendingReports) :
    s.updReports l f = { s with links := (s.updReports l f).links } := rfl

theorem State.countError_frame (s : State) (l : Link) (k : CounterName) : s.countError l k = { s with links := (s.countError l k).links } := rfl

/-! ## Placing a message (R86, R87) -/

theorem State.handOver_frame (s : State) (q : QueueIx) (d : Queue) (w : WaitingTake) (m : Message) :
    s.handOver q d w m = { s with queues := (s.handOver q d w m).queues, links := (s.handOver q d w m).links } := rfl

theorem State.arrivalEdge_frame (s : State) (q : QueueIx) (d : Queue) : s.arrivalEdge q d = { s with links := (s.arrivalEdge q d).links } := by
  unfold State.arrivalEdge; split
  · split <;> rfl
  · rfl

theorem State.placeMessage_frame (s : State) (q : QueueIx) (d : Queue) (m : Message) :
    (s.placeMessage q d m).2 = { s with queues := (s.placeMessage q d m).2.queues, links := (s.placeMessage q d m).2.links } := by
  unfold State.placeMessage
  split
  · exact s.handOver_frame q d _ m
  · split
    · split <;> rfl
    · split
      · rw [State.arrivalEdge_frame]; rfl
      · rfl

/-- A waiting take receives the message; no slot is used (R86, case 1). -/
theorem State.placeMessage_handed {s : State} {q : QueueIx} {d : Queue} {m : Message} {w : WaitingTake} (h : d.waitingTake = some w) :
    s.placeMessage q d m = (.handed, s.handOver q d w m) := by simp [State.placeMessage, h]

/-- A queue at capacity under REFUSE changes nothing (R86, case 2). -/
theorem State.placeMessage_full {s : State} {q : QueueIx} {d : Queue} {m : Message} (h : d.waitingTake = none)
    (hc : d.capacity ≤ d.messages.length) (ho : d.overflow = .refuse) : s.placeMessage q d m = (.queueFull d.capacity, s) := by
  simp [State.placeMessage, h, hc, ho]

/-- A queue at capacity under DROP_OLDEST drops one message and appends (R86, case 3). -/
theorem State.placeMessage_drop {s : State} {q : QueueIx} {d : Queue} {m : Message} (h : d.waitingTake = none)
    (hc : d.capacity ≤ d.messages.length) (ho : d.overflow = .dropOldest) :
    s.placeMessage q d m =
      (.stored true, s.setQueue q { d with messages := dropOldest d.messages ++ [m], drops := saturate Config.dropMax d.drops }) := by
  simp [State.placeMessage, h, hc, ho]

/-- Below capacity with a free slot the message is appended (R86, case 5). -/
theorem State.placeMessage_append {s : State} {q : QueueIx} {d : Queue} {m : Message} (h : d.waitingTake = none)
    (hc : d.messages.length < d.capacity) (hp : 0 < s.slotsFree) :
    s.placeMessage q d m = (.stored false, (s.setQueue q { d with messages := d.messages ++ [m] }).arrivalEdge q d) := by
  simp [State.placeMessage, h, Nat.not_le.mpr hc, hp]

/-- Below capacity with no free slot nothing changes (R86, case 4). -/
theorem State.placeMessage_noSlot {s : State} {q : QueueIx} {d : Queue} {m : Message} (h : d.waitingTake = none)
    (hc : d.messages.length < d.capacity) (hp : s.slotsFree = 0) : s.placeMessage q d m = (.poolEmpty, s) := by
  simp [State.placeMessage, h, Nat.not_le.mpr hc, hp]

theorem State.placeForward_frame (s : State) (q : QueueIx) (record : List Byte) :
    (s.placeForward q record).2 =
      { s with queues := (s.placeForward q record).2.queues, links := (s.placeForward q record).2.links } := by
  unfold State.placeForward
  cases hq : s.queue q with
  | none => rfl
  | some d =>
    have hf := s.placeMessage_frame q d ⟨0xFF, 0, s.clock, true, record⟩
    cases hp : s.placeMessage q d ⟨0xFF, 0, s.clock, true, record⟩ with
    | mk p t =>
      simp only [hp] at hf
      cases p <;> dsimp only <;> rw [hp] <;> exact hf

/-! ## Faults (R123 to R128) -/

theorem State.markOccurred_frame (s : State) (l : Link) (c : FaultClass) :
    s.markOccurred l c = { s with faults := (s.markOccurred l c).faults } := rfl

theorem State.finishForward_frame (s : State) (o : Faulting) (placed : Bool) :
    s.finishForward o placed = { s with faults := (s.finishForward o placed).faults, links := (s.finishForward o placed).links } := by
  cases placed <;> rfl

/-- A fault touches the fault records, the links and the pending forward posts alone: the request has no other effect (R124, R125). -/
theorem State.raise_frame (s : State) (o : Faulting) (f : HubFault) (resume : Option CellIx) :
    s.raise o f resume =
      { s with
        faults := (s.raise o f resume).faults
        links := (s.raise o f resume).links
        forwardPosts := (s.raise o f resume).forwardPosts } := by
  unfold State.raise
  dsimp only
  split
  · rfl
  · rfl
  · split
    · rw [State.finishForward_frame]; rfl
    · rfl

/-- A fault of a queue operation touches the fault records, the links and the queues alone. -/
theorem State.raiseInQueue_frame (s : State) (o : Faulting) (f : HubFault) :
    s.raiseInQueue o f =
      { s with
        faults := (s.raiseInQueue o f).faults
        links := (s.raiseInQueue o f).links
        queues := (s.raiseInQueue o f).queues } := by
  unfold State.raiseInQueue
  dsimp only
  split
  · rfl
  · rfl
  · split
    · rw [State.finishForward_frame]; rfl
    · next q _ =>
      rw [State.finishForward_frame, State.placeForward_frame]; rfl

/-! ## The role (R141) -/

theorem State.changeAdmin_frame (s : State) (new : Option Link) :
    s.changeAdmin new = { s with admin := new, links := (s.changeAdmin new).links } := by
  unfold State.changeAdmin
  split
  · next h => rw [← h]
  · dsimp only
    split <;> split <;> (try split) <;> (try split) <;> rfl

theorem State.vacateAdmin_frame (s : State) (holder : Link) :
    s.vacateAdmin holder = { s with admin := (s.vacateAdmin holder).admin, links := (s.vacateAdmin holder).links } := by
  unfold State.vacateAdmin
  split
  · rw [State.changeAdmin_frame]
  · rfl

/-! ## The end of a session (R115) -/

theorem State.consumeEntry_frame (s : State) (l : Link) :
    s.consumeEntry l =
      { s with entries := (s.consumeEntry l).entries, holds := (s.consumeEntry l).holds, drains := (s.consumeEntry l).drains } := by
  unfold State.consumeEntry
  dsimp only
  split
  · rw [State.endHold_frame]; rfl
  · rfl

theorem State.teardownEffects_frame (s : State) (l : Link) :
    s.teardownEffects l =
      { s with
        entries := (s.teardownEffects l).entries
        holds := (s.consumeEntry l).holds
        drains := (s.consumeEntry l).drains
        dwq := s.dwq.filter fun e => decide (e.link ≠ l)
        watches := s.watches.filter fun w => decide (w.link ≠ l)
        queues := s.queues.map fun e : QueueIx × Queue => (e.1, e.2.unbindFrom l)
        faults := setAt s.faults l {}
        sessions := setAt s.sessions l none
        admin := (s.teardownEffects l).admin
        links := (s.teardownEffects l).links } := by
  unfold State.teardownEffects
  dsimp only
  rw [State.vacateAdmin_frame, State.consumeEntry_frame]
  rfl

/-! ## The transmitter (R159) -/

theorem State.send_frame (s : State) (l : Link) (frame : List Byte) : s.send l frame = { s with links := (s.send l frame).links } := rfl

/-- Choosing a frame touches the links, the change records of the watches, the unreported count, and what a detection touches. -/
theorem State.choose_frame (s : State) (l : Link) :
    s.choose l =
      { s with
        links := (s.choose l).links
        watches := (s.choose l).watches
        cells := (s.choose l).cells
        unreported := (s.choose l).unreported
        latestCell := (s.choose l).latestCell
        counters := (s.choose l).counters } := by
  have hd : ∀ c, (s.accessCell c).2 = s ∨ (s.accessCell c).2 = s.detect c := fun c => by
    have := s.accessCell_cases c
    grind
  unfold State.choose
  split
  · rfl
  · unfold State.chooseReport
    dsimp only
    split
    · rfl
    · split
      · rfl
      · split
        · rfl
        · split
          · rfl
          · split
            · next c _ =>
              unfold State.sendChanged
              rcases hd c with h | h <;> simp only [h]
              · rfl
              · rw [State.detect_eq]; split <;> rfl
            · split <;> rfl

end Sys2Proof.Machine
end

