-- ==== Sys2Proof/Laws/Terms.lean ====
section
/-! SUPPORT. The shared operations in the terms of the statements: what meets a bad value, loses an entry, places a message, holds an election. -/

namespace Sys2Proof.Machine

/-! ## Detections and lost entries (R15 to R17) -/

/-- The count of detections, with its largest value written out. -/
theorem raiseDetections_eq (n : Word) : raiseDetections n = if n = 0xFFFFFFFF then 0xFFFFFFFF else n + 1 := by
  unfold raiseDetections
  by_cases h : n = 0xFFFFFFFF
  · subst h; rfl
  · rw [if_neg h, if_neg (by simpa using h)]

theorem State.detect_detected (s : State) (c : CellIx) : Detected s (s.detect c) c := by
  refine ⟨s.detect_cell_same c, fun _ h => s.detect_cell_ne h, ?_⟩
  rw [← raiseDetections_eq]
  conv_lhs => rw [State.detect_eq]
  rw [show (s.detect c).cells = (s.setCell c { s.cell c with poisoned := true, checkFails := false }).cells by rw [State.detect_eq]]
  rfl

/-- An access to a value that may not be used meets it, and leaves the version as it was. -/
theorem State.accessCell_bad {s : State} {c : CellIx} (h : (s.cell c).poisoned = true ∨ (s.cell c).checkFails = true) :
    ∃ code t, s.accessCell c = (some code, t) ∧ MeetsBadValue s t c code ∧ (t.cell c).version = (s.cell c).version := by
  cases hp : (s.cell c).poisoned with
  | true => exact ⟨_, _, State.accessCell_poisoned hp, .inl ⟨hp, rfl, rfl⟩, rfl⟩
  | false =>
    have hf : (s.cell c).checkFails = true := h.resolve_left (by simp [hp])
    exact ⟨_, _, State.accessCell_failing hp hf, .inr ⟨hp, hf, rfl, s.detect_detected c⟩, by simp⟩

/-- What a bad value leaves besides what it says: the entries, the holds, the role and the fault records are as they were. -/
theorem MeetsBadValue.kept {s t : State} {c : CellIx} {code : FaultCode} (h : MeetsBadValue s t c code) :
    t.entries = s.entries ∧ t.holds = s.holds ∧ t.drains = s.drains ∧ t.dwq = s.dwq ∧ t.faults = s.faults ∧ t.sessions = s.sessions ∧
      t.admin = s.admin ∧ t.forwardPosts = s.forwardPosts ∧ t.queues = s.queues ∧ t.watches = s.watches := by
  rcases h with ⟨_, _, rfl⟩ | ⟨_, _, _, d⟩
  · exact ⟨rfl, rfl, rfl, rfl, rfl, rfl, rfl, rfl, rfl, rfl⟩
  · rw [d.rest]; exact ⟨rfl, rfl, rfl, rfl, rfl, rfl, rfl, rfl, rfl, rfl⟩

theorem State.consumeEntry_lost (s : State) (l : Link) : EntryLost s (s.consumeEntry l) l := by
  refine ⟨fun h => ?_, fun c v h ha => ?_, ?_⟩
  · rw [State.consumeEntry_of_not_held h]; exact ⟨rfl, rfl⟩
  · rw [State.consumeEntry_of_held h, State.endHold_of_stands (by simpa using ha)]; exact ⟨rfl, rfl⟩
  · by_cases h : ∃ c v, (s.entry l).reservation = .held c v
    · obtain ⟨c, v, h⟩ := h
      rw [State.consumeEntry_of_held h, State.endHold_frame]; rfl
    · rw [State.consumeEntry_of_not_held fun c v hr => h ⟨c, v, hr⟩]; rfl

/-! ## Placing a message (R86, R87) -/

/-- What DROP_OLDEST leaves: the messages but the oldest normal one, or but the oldest when every one is urgent. -/
theorem dropOldest_eq {ms before after : List Message} {x : Message} (h : ms = before ++ x :: after)
    (hx : (x.urgent = false ∧ ∀ y ∈ before, y.urgent = true) ∨ (before = [] ∧ ∀ y ∈ ms, y.urgent = true)) :
    dropOldest ms = before ++ after := by
  subst h
  rcases hx with ⟨hx, hb⟩ | ⟨rfl, ha⟩
  · have hany : (before ++ x :: after).any (fun m => !m.urgent) = true := by simp [hx]
    have he : ∀ bs : List Message, (∀ y ∈ bs, y.urgent = true) → (bs ++ x :: after).eraseP (fun m => !m.urgent) = bs ++ after := by
      intro bs hbs
      induction bs with
      | nil => simp [hx]
      | cons b bs ih => simp [hbs b List.mem_cons_self, ih fun y hy => hbs y (List.mem_cons_of_mem _ hy)]
    simp [dropOldest, hany, he before hb]
  · have hany : (([] : List Message) ++ x :: after).any (fun m => !m.urgent) = false := by
      rw [List.any_eq_false]; intro y hy; simp [ha y hy]
    rw [dropOldest, hany]; rfl

/-- A message that has a place is placed. -/
theorem State.placeMessage_placement {s : State} {q : QueueIx} {d : Queue} {m : Message} (h : ¬NoPlace s d) :
    ∃ p t, s.placeMessage q d m = (p, t) ∧ (p = .handed ∨ ∃ dropped, p = .stored dropped) ∧ Placement s t q d m := by
  cases hw : d.waitingTake with
  | some w =>
    refine ⟨_, _, State.placeMessage_handed hw, .inl rfl, ⟨fun w' hw' => ?_, fun hn => ?_, fun hn => ?_, fun k hk => ?_, rfl⟩⟩
    · rw [hw] at hw'; cases hw'; exact ⟨State.setQueue_queue_same s q _, rfl⟩
    · rw [hw] at hn; cases hn
    · rw [hw] at hn; cases hn
    · exact State.setQueue_queue_ne s hk _
  | none =>
    by_cases hc : d.capacity ≤ d.messages.length
    · have ho : d.overflow = .dropOldest := by
        cases ho : d.overflow with
        | dropOldest => rfl
        | refuse => exact absurd ⟨hw, .inl ⟨hc, ho⟩⟩ h
      refine ⟨_, _, State.placeMessage_drop hw hc ho, .inr ⟨_, rfl⟩, ⟨fun w' hw' => ?_, fun _ _ before x after hm hx => ?_, fun _ hn => ?_,
        fun k hk => State.setQueue_queue_ne s hk _, rfl⟩⟩
      · rw [hw] at hw'; cases hw'
      · rw [State.setQueue_queue_same, dropOldest_eq hm hx]; exact ⟨rfl, rfl⟩
      · omega
    · have hp : 0 < s.slotsFree := by
        by_contra hp
        refine h ⟨hw, .inr ⟨by omega, ?_⟩⟩
        simp only [State.slotsFree, Config.poolSize] at hp; omega
      refine ⟨_, _, State.placeMessage_append hw (by omega) hp, .inr ⟨_, rfl⟩, ⟨fun w' hw' => ?_, fun _ hn => absurd hn hc, fun _ _ => ⟨?_, ?_⟩,
        fun k hk => ?_, ?_⟩⟩
      · rw [hw] at hw'; cases hw'
      · rw [State.arrivalEdge_frame]; exact State.setQueue_queue_same s q _
      · unfold State.arrivalEdge
        cases d.owner with
        | none => rfl
        | some k => dsimp only; split <;> rfl
      · rw [State.arrivalEdge_frame]; exact State.setQueue_queue_ne s hk _
      · rw [State.arrivalEdge_frame]; rfl

/-- The record of a forward post whose queue has a place for it. -/
theorem State.placeForward_placed {s : State} {q : QueueIx} {d : Queue} (hq : s.queue q = some d) (h : ¬NoPlace s d) (record : List Byte) :
    ∃ t, s.placeForward q record = (true, t) ∧ Placement s t q d ⟨0xFF, 0, s.clock, true, record⟩ := by
  obtain ⟨p, t, hp, hk, ht⟩ := State.placeMessage_placement (q := q) (m := ⟨0xFF, 0, s.clock, true, record⟩) h
  refine ⟨t, ?_, ht⟩
  unfold State.placeForward
  rw [hq]; dsimp only; rw [hp]
  rcases hk with rfl | ⟨_, rfl⟩ <;> rfl

/-- The record of a forward post whose queue is ABSENT or has no place is lost. -/
theorem State.placeForward_lost {s : State} {q : QueueIx} (h : s.queue q = none ∨ ∃ d, s.queue q = some d ∧ NoPlace s d) (record : List Byte) :
    s.placeForward q record = (false, s) := by
  rcases h with h | ⟨d, hq, hw, ⟨hc, ho⟩ | ⟨hc, hp⟩⟩
  · simp [State.placeForward, h]
  · simp [State.placeForward, hq, State.placeMessage_full hw hc ho]
  · have : s.slotsFree = 0 := by simp only [State.slotsFree, Config.poolSize]; omega
    simp [State.placeForward, hq, State.placeMessage_noSlot hw hc this]

/-! ## Elections (R138, R141) -/

theorem State.candidate_some {s : State} {l k : Link} (h : s.candidate l = some k) :
    k ≠ l ∧ s.eligible k = true ∧ ∀ j, j < k → j ≠ l → s.eligible j = false := by
  unfold State.candidate allLinks at h
  have hp := List.find?_some h
  simp only [Bool.and_eq_true, decide_eq_true_eq] at hp
  refine ⟨hp.2, hp.1, fun j hj hjl => ?_⟩
  by_contra he
  have he : s.eligible j = true := by simpa using he
  obtain ⟨_, as, bs, hs, ha⟩ := List.find?_eq_some_iff_append.mp h
  have hj' : j ∈ as := by
    have hm : j ∈ allLinks := mem_allLinks j
    have hsort : (as ++ k :: bs).Pairwise (fun a b => a < b) := by rw [← hs]; decide
    have : j ∈ as ++ k :: bs := by rw [← hs]; exact hm
    rcases List.mem_append.mp this with h | h
    · exact h
    · rcases List.mem_cons.mp h with rfl | h
      · exact absurd hj (lt_irrefl _)
      · exact absurd ((List.pairwise_cons.mp (List.pairwise_append.mp hsort).2.1).1 j h) (not_lt.mpr (le_of_lt hj))
  simpa [he, hjl] using ha j hj'

theorem State.candidate_none {s : State} {l : Link} (h : s.candidate l = none) (j : Link) (hj : j ≠ l) : s.eligible j = false := by
  have := List.find?_eq_none.mp h j (mem_allLinks j)
  simpa [hj] using this

/-- The role that leaves its holder goes as an election has it. -/
theorem State.vacateAdmin_elected {s : State} {l : Link} (h : s.admin = some l) : Elected s (s.vacateAdmin l) l := by
  have he : s.vacateAdmin l = s.changeAdmin (s.candidate l) := by simp [State.vacateAdmin, h]
  have hadm : (s.vacateAdmin l).admin = s.candidate l := by rw [he, State.changeAdmin_frame]
  have hne : s.admin ≠ s.candidate l := by
    rw [h]; intro hc; exact (State.candidate_some hc.symm).1 rfl
  refine ⟨fun k hk => State.candidate_some (hadm ▸ hk), fun hn => State.candidate_none (hadm ▸ hn), fun k hk => ?_, fun k hkl hk => ?_⟩
  · rw [hadm] at hk
    have hkl := (State.candidate_some hk).1
    rw [he, hk]
    unfold State.changeAdmin
    rw [if_neg (hk ▸ hne), h]
    by_cases hu : 0 < s.unreported <;> by_cases ha : s.attached l = true <;>
      simp [ha, hu, State.pendRole, State.pendIntegrity, State.withdrawIntegrity, State.updReports, State.updLink, State.link, getAt_setAt, hkl]
  · rw [hadm] at hk
    rw [he]
    unfold State.changeAdmin
    rw [if_neg hne, h]
    cases hc : s.candidate l with
    | none =>
      dsimp only
      by_cases ha : s.attached l = true
      · simp [ha, State.pendRole, State.withdrawIntegrity, State.updReports, State.updLink, State.link, getAt_setAt, hkl]
      · simp [ha, State.withdrawIntegrity, State.updReports, State.updLink, State.link, getAt_setAt, hkl]
    | some g =>
      have hg : k ≠ g := fun e => hk (e ▸ hc)
      dsimp only
      by_cases ha : s.attached l = true <;> by_cases hu : 0 < s.unreported <;>
        simp [ha, hu, State.pendRole, State.pendIntegrity, State.withdrawIntegrity, State.updReports, State.updLink, State.link, getAt_setAt, hkl, hg]

end Sys2Proof.Machine
end

