-- ==== Sys2Proof/Laws/Time.lean ====
section
/-! SUPPORT. The passing of time: each of the part's own events does nothing when it is not due, and with none due a millisecond is the clock's count. -/

namespace Sys2Proof.Machine

/-- Folding steps that each leave a state as it is. -/
theorem foldl_eq_self {α β : Type} {f : α → β → α} {s : α} (xs : List β) (h : ∀ x ∈ xs, f s x = s) : xs.foldl f s = s := by
  induction xs with
  | nil => rfl
  | cons x xs ih =>
    rw [List.foldl_cons, h x List.mem_cons_self]
    exact ih fun y hy => h y (List.mem_cons_of_mem _ hy)

theorem State.lapsePartial_of_not_due {s : State} {l : Link} (hs : s.settle = s) (h : s.gapDue l = false) : s.lapsePartial l = s := by
  simp [State.lapsePartial, hs, h]

theorem State.lapseLease_of_not_due {s : State} {l : Link} (hs : s.settle = s) (h : s.leaseDue l = false) : s.lapseLease l = s := by
  simp [State.lapseLease, hs, h]

theorem State.lapseTake_of_not_due {s : State} {q : QueueIx} (hs : s.settle = s) (h : s.dueTake q = none) : s.lapseTake q = s := by
  simp [State.lapseTake, hs, h]

theorem State.lapseHold_of_not_due {s : State} {c : CellIx} (hs : s.settle = s) (h : s.dueHold c = none) : s.lapseHold c = s := by
  simp [State.lapseHold, hs, h]

theorem takeDrains_of_none (n : Nat) {s : State} (hs : s.settle = s) (h : s.drains = []) : takeDrains n s = s := by
  cases n <;> simp [takeDrains, hs, h]

theorem State.clearDrains_of_none {s : State} (hs : s.settle = s) (h : s.drains = []) : s.clearDrains = s := by
  simp [State.clearDrains, takeDrains_of_none _ hs h]

/-- With nothing due, the millisecond that passes is the clock's count (R144). -/
theorem State.tick_of_not_due {s : State} (hr : s.rstn = true) (hs : s.settle = s) (hg : ∀ l, s.gapDue l = false)
    (hl : ∀ l, s.leaseDue l = false) (hq : ∀ q, s.dueTake q = none) (hh : ∀ c, s.dueHold c = none) (hd : s.drains = []) :
    s.tick = s.count := by
  have e1 := foldl_eq_self allLinks fun l _ => State.lapsePartial_of_not_due hs (hg l)
  have e2 := foldl_eq_self allLinks fun l _ => State.lapseLease_of_not_due hs (hl l)
  have e3 := foldl_eq_self (s.queues.map Prod.fst) fun q _ => State.lapseTake_of_not_due hs (hq q)
  have e4 := foldl_eq_self (s.holds.map HoldRecord.cell) fun c _ => State.lapseHold_of_not_due hs (hh c)
  simp only [State.tick, hr, if_true, State.takeDue, e1, e2, e3, e4, State.clearDrains_of_none hs hd]

end Sys2Proof.Machine
end

