-- ==== Sys2Proof/Tests/Slice0.lean ====
section
/-! SUPPORT. Tests: the refusals of WellFormed, the codings against the manual's tables, small steps, and for each statement a state that meets its
hypotheses. -/

namespace Sys2Proof.Tests

set_option Elab.async false

open Sys2Proof.Machine

/-! ## WellFormed refuses -/

theorem test_wellFormed_refuses_echo : Instr.wellFormed (.ping 0 1 (List.replicate 9 0)) = false := by decide

theorem test_wellFormed_refuses_payload : Instr.wellFormed (.post 0 1 0 false (List.replicate 49 0)) = false := by decide

theorem test_wellFormed_refuses_owner : Instr.wellFormed (.setCellClass 0 1 0 .openAll 1) = false := by decide

/-! ## Codings (chapter 10) -/

/-- R164: over the nine bytes 0x31 to 0x39 the CRC is 0x29B1, sent as 0xB1 then 0x29. -/
theorem test_crc_check_value : le 2 (crc [0x31, 0x32, 0x33, 0x34, 0x35, 0x36, 0x37, 0x38, 0x39]) = [0xB1, 0x29] := by decide +kernel

/-- R164, R169: the bytes of a FETCH_ADD of 2^63 + 2 on cell 0x0102. -/
theorem test_read_fetchAdd :
    checkBody 0x12 [0x02, 0x01, 0x02, 0, 0, 0, 0, 0, 0, 0x80] = .ok (.fetchAdd 0x0102 0x8000000000000002) := by rfl

/-- R169: the bytes of a CREATE_QUEUE. -/
theorem test_read_createQueue :
    checkBody 0x20 [0x1F, 0x34, 0x12, 0x40, 0x01, 0x81, 0x10, 0x00, 0x01] =
      .ok (.createQueue 31 0x1234 64 .dropOldest 0x81 0x0010 true) := by rfl

/-- R168: OPEN's eligible field is checked; SET_CELL_CLASS's owner with class OPEN is reserved and is checked before the class. -/
theorem test_read_faults :
    checkBody 0x01 [1, 0, 2, 0, 0] = .error ⟨.enumValue, 0, 2⟩ ∧
      checkBody 0x13 [0, 0, 1, 5, 0] = .error ⟨.reservedSet, 0, 3⟩ ∧ checkBody 0x13 [0, 0, 3, 5, 0] = .error ⟨.enumValue, 0, 2⟩ ∧
      checkBody 0x24 [0] = .error ⟨.bodyLength, 0, 1⟩ ∧ checkBody 0x05 [] = .error ⟨.unknownKind, 0, 5⟩ := by
  refine ⟨rfl, rfl, rfl, rfl, rfl⟩

/-- R166: the details of CELL_CLASS and of OTHER_CELL. -/
theorem test_details :
    cellClassDetail (.owned 0x1234) = 0x00021234 ∧ reservationDetail (.held 5 0) = 0x00050002 ∧
      reservationDetail .none = 0xFFFF0000 := by decide

/-! ## States -/

/-- A hub that is READY with four sessions: links 0 (the admin) and 2 are admin-eligible, link 1 is not, link 3 is CLOSING. -/
def base : State :=
  { State.reset with
    hubState := .ready
    scrubbing := false
    admin := some 0
    clock := 100
    sessions := #v[some ⟨.attached, 0x10, true, 10, some 1000⟩, some ⟨.attached, 0x11, false, 0, none⟩,
      some ⟨.attached, 0x12, true, 255, some 30000⟩, some ⟨.closing, 0x13, false, 0, none⟩, none, none, none, none] }

/-- One request waits in a link's cell line, in its queue line, or among its arrivals. -/
def askCell (s : State) (l : Link) (r : Request) : State :=
  { s with cellLines := setAt s.cellLines l [⟨7, r⟩], links := setAt s.links l { s.link l with tags := [7] } }

def askQueue (s : State) (l : Link) (r : Request) : State :=
  { s with queueLines := setAt s.queueLines l [⟨7, r⟩], links := setAt s.links l { s.link l with tags := [7] } }

def arrive (s : State) (l : Link) (r : Request) : State :=
  { s with links := setAt s.links l { s.link l with tags := [6, 7], inbox := [⟨7, r⟩] } }

/-- A cell set by hand. -/
def withCell (s : State) (c : CellIx) (x : Cell) : State := s.setCell c x

/-- A session's entry and, when it is HELD, its hold, set by hand. -/
def withEntry (s : State) (l : Link) (e : Entry) : State :=
  match e.reservation with
  | .held c _ => { s.setEntry l e with holds := s.holds ++ [⟨c, l, .standing 120⟩] }
  | _ => s.setEntry l e

/-- A queue of capacity 2 owned by link 1, with the messages given. -/
def queueOf1 (messages : List Message) (overflow : Overflow) (take : Option WaitingTake) : Queue :=
  ⟨0x55, 2, overflow, 0x83, none, true, some 1, messages, take, 0⟩

/-- Queue 31 as link 1 owns it. -/
def owned (messages : List Message) (overflow : Overflow) (take : Option WaitingTake) : State :=
  base.setQueue 31 (queueOf1 messages overflow take)

/-- A fault of link 2 has its forward post pending; that of a DWQ entry stops its drain. `carrying` is the request that the queue arbiter is carrying out. -/
def posted (s : State) (resume : Option CellIx) (carrying : Option (Link × Waiting)) : State :=
  { s with forwardPosts := [⟨2, 7, 0x11, [0, 0, 0, 0, 0], 31, [3, 0x30, 0x11, 7, 0, 0, 0, 0, 1, 0], resume, carrying⟩] }

/-- The drain of cell 1023 is between two entries. -/
def paused (s : State) : State := { s with draining := some 1023, dwq := [⟨2, 1, .write, 1023, 0⟩] }

/-- The receiver of link 1 set by hand. -/
def receiving (r : Receiver) : State := { base with links := setAt base.links 1 { base.link 1 with receiver := r } }

def normal : Message := ⟨0, 0x10, 90, false, [1]⟩
def urgent : Message := ⟨0, 0x10, 91, true, [2]⟩

/-- The state that a result carries, and what a command places in a link's reply queue. -/
def after : Result → State
  | .next t => t
  | _ => State.reset

def repliesOf (c : Instr) (s : State) (l : Link) : List Reply := ((after (exec c s)).link l).replies

/-! ## Small steps -/

theorem test_read_answers : repliesOf (.read 1 7 1023) (askCell (withCell base 1023 ⟨0x0102, false, 3, .openAll, false⟩) 1 (.read 1023)) 1 =
    [⟨0x90, 7, .ok, [2, 1, 0, 0, 0, 0, 0, 0, 3, 0, 0, 0]⟩] := by decide +kernel

theorem test_write_version : repliesOf (.write 1 7 5 9) (askCell (withCell base 5 ⟨1, true, 0xFFFFFFFF, .openAll, true⟩) 1 (.write 5 9)) 1 =
    [⟨0x91, 7, .ok, [0, 0, 0, 0, 0]⟩] := by decide +kernel

theorem test_fetchAdd_wraps :
    ((after (exec (.fetchAdd 1 7 5 1)
      (askCell (withCell base 5 ⟨0xFFFFFFFFFFFFFFFF, false, 0, .openAll, false⟩) 1 (.fetchAdd 5 1)))).cell 5).value = 0 := by decide +kernel

theorem test_take_urgent_first :
    (repliesOf (.take 1 7 4 0)
      (askQueue (base.setQueue 4 (queueOf1 [normal, urgent] .refuse none)) 1 (.take 4 0)) 1).map Reply.fields =
      [[1, 0, 0x10, 0, 91, 0, 0, 0, 1, 2]] := by decide +kernel

theorem test_hold_granted : (repliesOf (.reserve 1 7 5) (askCell (withEntry base 1 ⟨.none, 4⟩) 1 (.reserve 5)) 1).map Reply.fields =
    [[0, 0, 0, 0, 0, 0, 0, 0, 0, 0, 0, 0, 1, 0]] := by decide +kernel

theorem test_query_hub_part : ((repliesOf (.queryHub 1 7) (arrive base 1 .queryHub) 1).map fun r => r.fields.take 8) =
    [[0x08, 0x24, 1, 0, 0, 0, 4, 20]] := by decide +kernel

theorem test_clock_counts : (after (step base)).clock = 101 := by decide +kernel

/-- R49, R54 (3.14): the clock does not pass a deadline with the hold standing: it expires, its drain applies the deferred WRITE, and the holder's entry
breaks. With the deadline ahead nothing happens. -/
theorem test_hold_ends_at_its_deadline :
    let s : State := { withEntry base 1 ⟨.held 0 0, 0⟩ with clock := 120, dwq := [⟨2, 1, .write, 0, 40⟩] }
    let t := after (step s)
    (t.clock = 121 ∧ (t.cell 0).value = 40 ∧ t.entry 1 = ⟨.broken 0, 0⟩ ∧ t.holds = [] ∧ t.dwq = []) ∧
      (after (step { s with clock := 119 })).holds = s.holds := by decide +kernel

/-- R127: the admin's DESTROY_QUEUE, which the arbiter was carrying out as the post became pending, ends first, and the record is lost. -/
theorem test_forward_lost :
    let s := askQueue (posted (owned [] .refuse none) none (some (0, ⟨7, .destroyQueue 31⟩))) 0 (.destroyQueue 31)
    (repliesOf .forwardPost (after (exec (.destroyQueue 0 7 31) s)) 2).map Reply.status = [.okDefaultLost] ∧
      (repliesOf .forwardPost s 2).map Reply.status = [.okDefault] := by decide +kernel

/-- R162, log 24: across a CLEAR the gap of a partial frame goes on from the 2 ms already gone, whatever the hub clock was. -/
theorem test_gap_across_reset :
    let s : State := { receiving (.collect [2, 3] 0x80000000) with clock := 0x80000002 }
    let t := s.beginReset .clear
    t.gapDue 1 = false ∧ ({ t with clock := t.clock + 1 } : State).gapDue 1 = true := by decide +kernel

/-! ## A state for each statement that has hypotheses, one for each of its clauses -/

theorem witness_StepRunsTheFrontCommand : ({ base with pending := [.drain] } : State).pending = .drain :: [] := rfl

theorem witness_EveryStepGoesOn :
    (base.pending = [] ∧ base.rstn = true) ∧ ({ base with rstn := false } : State).pending = [] ∧ ({ base with rstn := false } : State).rstn = false :=
  ⟨⟨rfl, rfl⟩, rfl, rfl⟩

/-- An operation is in progress: a forward post is pending, or a drain is between two entries. -/
theorem witness_EveryStepGoesOn_inProgress :
    (posted base none none).settled = false ∧ (posted base none none).resetRequest = none ∧
      (paused base).settled = false ∧ (paused base).forwardPosts = [] ∧ (paused base).resetRequest = none := by decide +kernel

/-- Link 3's clean teardown is due, and a noise byte has come on link 1. -/
def due : State := { base with links := setAt base.links 3 { base.link 3 with tags := [7] } }

theorem witness_EveryStepGoesOn_due :
    base.settled = true ∧ due.settled = false ∧ due.resetRequest = none ∧
      ({ due with resetRequest := some ⟨.clear, 0⟩ } : State).resetRequest ≠ none ∧
      exec (.lineByteArrival 1 0) due.settle ≠ .next due.settle ∧ (∀ rate, Instr.lineByteArrival 1 0 ≠ .powerOn rate) ∧
      (∀ k, Instr.lineByteArrival 1 0 ≠ .storageUpset k) ∧ (∀ l, Instr.lineByteArrival 1 0 ≠ .cleanTeardown l) ∧
      (∀ l, Instr.lineByteArrival 1 0 ≠ .frameSent l) ∧ ¬due.fallsInside (.lineByteArrival 1 0) := by
  refine ⟨by decide +kernel, by decide +kernel, rfl, by decide, fun h => ?_, fun _ => nofun, fun _ => nofun, fun _ => nofun, fun _ => nofun,
    fun h => absurd h.1 (by decide +kernel)⟩
  have h := congrArg (fun r => ((after r).link 1).counters.noise) h
  revert h; decide +kernel

theorem witness_PinsResetEveryBlock :
    PowerOnValues { State.reset with rstn := false } ∧ ({ State.reset with rstn := false } : State).rstn = false ∧
      (∀ rate, Instr.lineByteArrival 7 0xA5 ≠ .powerOn rate) ∧ Instr.lineByteArrival 7 0xA5 ≠ .rstnAsserted := by
  refine ⟨?_, rfl, fun _ => nofun, nofun⟩
  constructor <;>
    first
      | decide +kernel
      | (intro l
         refine ⟨fun c => ?_, fun c => ?_, ?_, ?_⟩ <;> first | (fin_cases l <;> rfl) | (cases c <;> fin_cases l <;> rfl))

theorem witness_ResetCompleteMakesReady : (State.reset.rstn = true ∧ State.reset.hubState = .resetting) ∧ base.hubState = .ready := by decide

theorem witness_StorageUpsetIsLatent :
    (base.rstn = true ∧ base.scrubbing = false ∧ (base.cell 1023).poisoned = false) ∧
      (withCell base 0 ⟨5, false, 1, .openAll, true⟩).rstn = true ∧ ((withCell base 0 ⟨5, false, 1, .openAll, true⟩).cell 0).poisoned = true ∧
      State.reset.rstn = true ∧ State.reset.scrubbing = true := by decide +kernel

theorem witness_ArbitersTakeInRotation :
    (base.resetRequest = none ∧ base.drains = [] ∧ base.forwardPosts = []) ∧
      (∃ (s : State) (l : Link) (w : Waiting), s.resetRequest = none ∧ s.drains = [] ∧ s.cellTurn = some (l, w)) ∧
      (∃ (s : State) (l : Link) (w : Waiting), s.resetRequest = none ∧ s.forwardPosts = [] ∧ s.queueTurn = some (l, w)) ∧
      ({ base with drains := [3] } : State).drains ≠ [] ∧
      (posted base none none).forwardPosts ≠ [] := by
  refine ⟨by decide, ⟨{ askCell base 7 (.read 0) with cellPointer := 7 }, 7, ⟨7, .read 0⟩, by decide +kernel⟩,
    ⟨{ askQueue base 0 (.peek 0) with queuePointer := 1 }, 0, ⟨7, .peek 0⟩, by decide +kernel⟩, by decide, by decide⟩

/-- A request taken inside an operation: the one carried out as the forward post became pending, and one between two entries of a drain. -/
theorem witness_ArbitersTakeInRotation_inside :
    ((askQueue (posted base none (some (0, ⟨7, .peek 0⟩))) 0 (.peek 0)).takesQueue 0 7 (.peek 0) ∧ (posted base none none).resetRequest = none) ∧
      ((askQueue (paused base) 0 (.peek 0)).takesQueue 0 7 (.peek 0) ∧ (paused base).forwardPosts = []) := by decide +kernel

/-- Requests whose turn it is not, at each arbiter, and a RELEASE behind another request of its link. -/
theorem witness_ArbitersTakeInRotation_notTaken :
    (let s := askCell (askCell base 1 (.read 5)) 2 (.read 5)
    s.settled = true ∧ cellIndexOf (.read 5) ≠ none ∧ s.cellTurn ≠ some (2, ⟨7, .read 5⟩) ∧ (s.cellLine 2).head? = some ⟨7, .read 5⟩) ∧
      (let s := askQueue (askQueue base 1 (.peek 5)) 2 (.peek 5)
      s.settled = true ∧ queueIndexOf (.peek 5) ≠ none ∧ s.queueTurn ≠ some (2, ⟨7, .peek 5⟩) ∧ (s.queueLine 2).head? = some ⟨7, .peek 5⟩) ∧
      (let s : State := { base with cellLines := setAt base.cellLines 1 [⟨7, .read 5⟩, ⟨6, .release⟩] }
      s.settled = true ∧ (getAt s.cellLines 1).head? ≠ some ⟨6, .release⟩ ∧ ⟨6, .release⟩ ∈ s.cellLine 1) := by decide +kernel

/-- A RELEASE of link 1 stands before a READ whose turn it is, and link 2 waits with another. -/
def releaseFirst : State :=
  { askCell (askCell base 2 (.read 0)) 1 (.read 5) with
    cellLines := setAt (setAt base.cellLines 2 [⟨7, .read 0⟩]) 1 [⟨6, .release⟩, ⟨7, .read 5⟩] }

theorem witness_ArbitersTakeInRotation_release :
    releaseFirst.settled = true ∧ releaseFirst.cellTurn = some (1, ⟨7, .read 5⟩) ∧
      (getAt releaseFirst.cellLines 1).head? ≠ some ⟨7, .read 5⟩ ∧ destination (.read 0) = .cellLine ∧
      Request.read 0 ≠ .release ∧ ∀ cell, Request.read 0 ≠ .unwatch cell := by
  refine ⟨by decide +kernel, by decide +kernel, by decide +kernel, rfl, nofun, fun _ => nofun⟩

theorem witness_ReceiverTakesBytesByState :
    (base.rstn = true ∧ base.settled = true ∧ (base.link 1).receiver = .hunt) ∧
      (∀ t : Clock, t = 98 ∨ t = 100 →
        (receiving (.length t)).settled = true ∧ ((receiving (.length t)).link 1).receiver = .length t ∧
          reached (receiving (.length t)).clock (t + 3) = false) ∧
      (2 ≤ (2 : Byte).toNat ∧ (62 : Byte).toNat ≤ 62) ∧ ((1 : Byte).toNat < 2 ∧ 62 < (63 : Byte).toNat ∧ (63 : Byte) ≠ 0xA5) ∧
      ((receiving (.collect [2, 3, 0] 98)).settled = true ∧
        ((receiving (.collect [2, 3, 0] 98)).link 1).receiver = .collect (2 :: [3, 0]) 98 ∧
        reached (receiving (.collect [2, 3, 0] 98)).clock (98 + 3) = false ∧ [3, 0].length + 1 < (2 : Byte).toNat + 2) := by
  refine ⟨by decide +kernel, ?_, by decide, by decide, by decide +kernel⟩
  rintro t (rfl | rfl) <;> decide +kernel

theorem witness_EncodedFrameIsReceived :
    base.rstn = true ∧ base.settled = true ∧ (base.link 1).receiver = .hunt ∧ (List.replicate 60 (0xA5 : Byte)).length ≤ 60 := by
  decide +kernel

theorem witness_DiscardedFrameIsRescanned :
    ((receiving (.collect [2, 3, 0, 9] 98)).rstn = true ∧ (receiving (.collect [2, 3, 0, 9] 98)).settled = true ∧
        ((receiving (.collect [2, 3, 0, 9] 98)).link 1).receiver = .collect (2 :: [3, 0, 9]) 98 ∧
        reached (receiving (.collect [2, 3, 0, 9] 98)).clock (98 + 3) = false ∧ [3, 0, 9].length + 1 = (2 : Byte).toNat + 2 ∧
        le 2 (crc (2 :: ([3, 0, 9] ++ [(9 : Byte)]).take (2 : Byte).toNat)) ≠ ([3, 0, 9] ++ [(9 : Byte)]).drop (2 : Byte).toNat ∧
        (0xA5 : Byte) ∉ 2 :: ([3, 0, 9] ++ [9])) ∧
      ((receiving (.length 97)).settled = true ∧ reached (receiving (.length 97)).clock (97 + 3) = true ∧
        ((receiving (.length 97)).link 1).receiver = .length 97) ∧
      (receiving (.collect [2, 3] 97)).settled = true ∧ reached (receiving (.collect [2, 3] 97)).clock (97 + 3) = true ∧
        ((receiving (.collect [2, 3] 97)).link 1).receiver = .collect [2, 3] 97 ∧ (0xA5 : Byte) ∉ [(2 : Byte), 3] := by
  decide +kernel

/-- The bytes of a PING with tag 9. -/
def pingBytes : List Byte := frameBytes 0x03 9 []

theorem witness_DiscardedFrameIsRescanned_found :
    (∀ got : List Byte, got = [0] ++ pingBytes ++ [0] ∨ got = [0, 1, 2, 3, 4, 5, 6, 7] ∨ got = [0, 1, 2, 3, 4, 0xA5, 61, 0xA5] →
        (receiving (.collect (7 :: got) 98)).rstn = true ∧ (receiving (.collect (7 :: got) 98)).settled = true ∧
          ((receiving (.collect (7 :: got) 98)).link 1).receiver = .collect (7 :: got) 98 ∧
          reached (receiving (.collect (7 :: got) 98)).clock (98 + 3) = false ∧ got.length + 1 = (7 : Byte).toNat + 2 ∧
          le 2 (crc (7 :: (got ++ [(0xA5 : Byte)]).take (7 : Byte).toNat)) ≠ (got ++ [(0xA5 : Byte)]).drop (7 : Byte).toNat ∧
          le 2 (crc (7 :: (got ++ [(0 : Byte)]).take (7 : Byte).toNat)) ≠ (got ++ [(0 : Byte)]).drop (7 : Byte).toNat) ∧
      ((7 :: (([0] ++ pingBytes ++ [0]) ++ [0]) = [7, 0] ++ frameBytes 0x03 9 [] ++ [(0 : Byte), 0]) ∧
        (0xA5 : Byte) ∉ [(7 : Byte), 0] ∧ (0xA5 : Byte) ∉ [(0 : Byte), 0]) ∧
      (7 :: ([0, 1, 2, 3, 4, 5, 6, 7] ++ [0xA5]) = [7, 0, 1, 2, 3, 4, 5, 6, 7] ++ [(0xA5 : Byte)] ∧
        7 :: ([0, 1, 2, 3, 4, 0xA5, 61, 0xA5] ++ [0]) = [7, 0, 1, 2, 3, 4] ++ (0xA5 : Byte) :: 61 :: [0xA5, 0]) ∧
      (∀ got : List Byte, got = [7] ++ pingBytes ++ [1] ∨ got = [7] ++ 0xA5 :: [] ∨ got = [7] ++ 0xA5 :: [62, 3] →
        (receiving (.collect got 97)).settled = true ∧ (receiving (.collect got 97)).rstn = true ∧
          (receiving (.collect got 97)).gapDue 1 = true ∧ reached (receiving (.collect got 97)).clock (97 + 3) = true ∧
          (after (exec (.partialTimeout 1) (receiving (.collect got 97)))).settled = true) := by
  refine ⟨?_, by decide +kernel, by decide +kernel, ?_⟩
  · rintro got (rfl | rfl | rfl) <;> decide +kernel
  · rintro got (rfl | rfl | rfl) <;> decide +kernel

/-- The tags in flight and the replies waiting on link 1 set by hand. -/
def inFlight (tags : List Tag) (replies : List Reply) : State :=
  { base with links := setAt base.links 1 { base.link 1 with tags := tags, replies := replies } }

def pong : Reply := ⟨0x83, 4, .ok, []⟩

theorem witness_WindowTakesAtMostFour :
    4 ≤ ((inFlight [1, 2, 3] [pong]).link 1).tags.length + ((inFlight [1, 2, 3] [pong]).link 1).replies.length ∧
      (((inFlight [1, 2] [pong]).link 1).tags.length + ((inFlight [1, 2] [pong]).link 1).replies.length < 4 ∧
        (2 : Tag) ∈ ((inFlight [1, 2] [pong]).link 1).tags ∧ (3 : Tag) ∉ ((inFlight [1, 2] [pong]).link 1).tags ∧
        (inFlight [1, 2] [pong]).resetRequest = none) ∧
      ({ base with resetRequest := some ⟨.clear, 0⟩ } : State).resetRequest ≠ none := by decide +kernel

theorem witness_ValidFrameRenewsTheLease :
    (base.rstn = true ∧ base.settled = true ∧ (base.link 0).receiver = .hunt ∧ (⟨0x7F, 5, [1]⟩ : RawFrame).kind = 0x7F) ∧
      (0x03 : Byte) ≠ 0x7F ∧ base.session 0 = some ⟨.attached, 0x10, true, 10, some 1000⟩ ∧ base.session 7 = none := by decide +kernel

theorem witness_RequestBodyIsReadBack :
    Request.wellFormed (.post 31 true (List.replicate 48 0xA5)) = true ∧ Request.wellFormed (.ping (List.replicate 8 0)) = true ∧
      Request.wellFormed (.setCellClass 1023 .owned 0xFFFF) = true ∧ Request.wellFormed (.setCellClass 0 .openAll 0) = true := by decide

/-- One body for each of the body checks, and one that passes them all. -/
theorem witness_FormFaultsAreRefusedAtOnce :
    checkBody 0x05 [] = .error ⟨.unknownKind, 0, 5⟩ ∧ checkBody 0x24 [0] = .error ⟨.bodyLength, 0, 1⟩ ∧
      checkBody 0x03 (List.replicate 9 0) = .error ⟨.bodyLength, 0, 9⟩ ∧ checkBody 0x24 [0, 2] = .error ⟨.enumValue, 0, 1⟩ ∧
      ([0, 0, 1, 0, 1] : List Byte).drop 3 ≠ [0, 0] ∧ checkBody 0x13 [0, 0, 1, 0, 1] = .error ⟨.reservedSet, 0, 3⟩ ∧
      checkBody 0x13 [0, 0, 3, 0, 1] = .error ⟨.enumValue, 0, 2⟩ ∧
      checkBody 0x20 [0, 0, 0, 0, 1, 0, 0, 0, 2] = .error ⟨.enumValue, 0, 8⟩ ∧
      checkBody 0x20 [0, 0, 0, 0, 2, 0, 0, 0, 2] = .error ⟨.enumValue, 0, 4⟩ ∧
      checkBody 0x30 [7, 3] = .error ⟨.enumValue, 0, 0⟩ ∧ checkBody (⟨0x30, 5, [6, 2]⟩ : RawFrame).kind [6, 2] = .ok (.setPolicy .integrity .forward) := by
  refine ⟨rfl, rfl, rfl, rfl, by decide, rfl, rfl, rfl, rfl, rfl, rfl⟩

/-- R104 on one request of each owning block. -/
theorem witness_SesSortsArrivals :
    (base.resetRequest = none ∧ ((arrive base 4 .queryHub).link 4).inbox = ⟨7, .queryHub⟩ :: [] ∧ (arrive base 4 .queryHub).session 4 = none ∧
        isOpen .queryHub = false ∧ isOpen (.openSession 9 true 0) = true ∧ State.reset.hubState = .resetting ∧ base.hubState = .ready) ∧
      ((arrive base 3 .release).session 3 = some ⟨.closing, 0x13, false, 0, none⟩ ∧ isPing .release = false ∧ isPing (.ping []) = true) ∧
      (arrive base 1 .release).session 1 = some ⟨.attached, 0x11, false, 0, none⟩ ∧ destination .queryHub = .atArrival ∧
        destination .release = .cellLine ∧ destination (.peek 0) = .queueLine := by decide +kernel

theorem witness_ResyncClearsTheLinkOrIsHeld :
    (base.rstn = true ∧ base.settled = true ∧ base.resetRequest = none ∧ base.session 1 = some ⟨.attached, 0x11, false, 0, none⟩ ∧
        base.session 4 = none) ∧
      ({ base with resetRequest := some ⟨.clear, 0⟩ } : State).resetRequest = some ⟨.clear, 0⟩ := by decide +kernel

/-- The transmitter of link 1 set by hand. -/
def transmitting (t : Transmitter) (replies : List Reply) (r : PendingReports) : State :=
  { base with links := setAt base.links 1 { base.link 1 with transmitter := t, replies := replies, reports := r } }

theorem witness_TransmitterSendsRepliesFirst :
    ((transmitting .idle [pong] {}).settled = true ∧ ((transmitting .idle [pong] {}).link 1).transmitter = .idle ∧
        ((transmitting .idle [pong] {}).link 1).replies = pong :: []) ∧
      ((transmitting (.sending [0xA5]) [] {}).settled = true ∧ ((transmitting (.sending [0xA5]) [] {}).link 1).transmitter = .sending [0xA5] ∧
        (transmitting (.sending [0xA5]) [] {}).resetRequest = none) ∧
      (paused (transmitting .idle [pong] {})).inProgress = true := by decide +kernel

def allReports : PendingReports := ⟨some ⟨.lease, 0x11, 2⟩, true, true, some .resyncDone, [4, 31]⟩

theorem witness_ReportsAreSentInOrderOfKey :
    (∀ r : PendingReports, r = allReports ∨ r = { allReports with sessionEnded := none } ∨ r = { allReports with sessionEnded := none, role := false } ∨
        r = { allReports with sessionEnded := none, role := false, integrity := false } ∨ r = { arrivals := [4, 31] } ∨ r = {} →
      (transmitting .idle [] r).settled = true ∧ ((transmitting .idle [] r).link 1).transmitter = .idle ∧
        ((transmitting .idle [] r).link 1).replies = [] ∧ ((transmitting .idle [] r).link 1).reports = r) ∧
      allReports.sessionEnded = some ⟨.lease, 0x11, 2⟩ ∧ allReports.role = true ∧ allReports.integrity = true ∧
      allReports.linkEntry = some .resyncDone ∧ (∀ w ∈ base.watches, w.link = 1 → w.pending = none) ∧
      ((4 : QueueIx) ∈ [(4 : QueueIx), 31] ∧ (∀ k ∈ [(4 : QueueIx), 31], (4 : QueueIx) ≤ k) ∧
        [(4 : QueueIx), 31].Pairwise (fun a b => a < b)) ∧
      ((transmitting .idle [] { arrivals := [4, 31] }).setQueue 4 (queueOf1 [normal] .refuse none)).queue 4 =
        some (queueOf1 [normal] .refuse none) ∧ (posted (transmitting .idle [] allReports) none none).inProgress = true := by
  refine ⟨?_, rfl, rfl, rfl, rfl, by decide, by decide, by decide +kernel, by decide⟩
  rintro r (rfl | rfl | rfl | rfl | rfl | rfl) <;> decide +kernel

/-- Link 1 watches cells 5 and 9 with a CHANGED pending for each. -/
def watching (x : Cell) : State := { withCell base 5 x with watches := [⟨1, 9, some 255⟩, ⟨1, 5, some 1⟩, ⟨2, 5, none⟩] }

theorem witness_ChangedReportReadsTheCell :
    ∀ x : Cell, x = ⟨8, false, 1, .openAll, false⟩ ∨ x = ⟨8, true, 1, .openAll, false⟩ ∨ x = ⟨8, false, 1, .openAll, true⟩ →
      (watching x).settled = true ∧ ((watching x).link 1).transmitter = .idle ∧ ((watching x).link 1).replies = [] ∧
      ((watching x).link 1).reports = {} ∧ (⟨1, 5, some 1⟩ : Watch) ∈ (watching x).watches ∧
      (∀ v ∈ (watching x).watches, v.link = 1 → v.cell = 5 → v = ⟨1, 5, some 1⟩) ∧
      (∀ v ∈ (watching x).watches, v.link = 1 → v.pending ≠ none → 5 ≤ v.cell) ∧ (watching x).cell 5 = x := by
  rintro x (rfl | rfl | rfl) <;> decide +kernel

theorem witness_ResetBeginsWhenItsReplyIsSent :
    let s : State := { transmitting (.sending (frameBytes 0xB5 7 [0x00, scopeByte .keepCells])) [] {} with resetRequest := some ⟨.keepCells, 1⟩ }
    s.resetRequest = some ⟨.keepCells, 1⟩ ∧ (s.link 1).transmitter = .sending (frameBytes 0xB5 7 [0x00, scopeByte .keepCells]) := ⟨rfl, rfl⟩

theorem witness_AcceptedOpenAttachesTheSession :
    let s := arrive base 7 (.openSession 0xFFFF true 255)
    s.takesArrived 7 7 (.openSession 0xFFFF true 255) ∧ s.session 7 = none ∧ s.hubState = .ready ∧ (0xFFFF : Half) ≠ 0 ∧ (255 : Half).toNat ≤ 255 ∧
      ∀ k x, k ≠ 7 → s.session k = some x → x.hostId ≠ 0xFFFF := by
  refine ⟨by decide +kernel, by decide +kernel, rfl, by decide, by decide, ?_⟩
  intro k x _ h
  fin_cases k <;> first | (cases h; done) | (cases h; decide)

theorem witness_RefusedOpenChangesNoSession :
    ((arrive base 1 (.openSession 9 true 0)).takesArrived 1 7 (.openSession 9 true 0) ∧
        (arrive base 1 (.openSession 9 true 0)).session 1 = some ⟨.attached, 0x11, false, 0, none⟩) ∧
      (arrive base 4 (.openSession 0 true 256)).takesArrived 4 7 (.openSession 0 true 256) ∧
      ((arrive base 4 (.openSession 9 true 256)).takesArrived 4 7 (.openSession 9 true 256) ∧ 255 < (256 : Half).toNat) ∧
      ((arrive base 4 (.openSession 0x12 true 255)).takesArrived 4 7 (.openSession 0x12 true 255) ∧
        (arrive base 4 (.openSession 0x12 true 255)).session 4 = none ∧
        (arrive base 4 (.openSession 0x12 true 255)).session 2 = some ⟨.attached, 0x12, true, 255, some 30000⟩ ∧
        ∀ j y, j < 2 → j ≠ 4 → (arrive base 4 (.openSession 0x12 true 255)).session j = some y → y.hostId ≠ 0x12) := by
  refine ⟨by decide +kernel, by decide +kernel, by decide +kernel, by decide +kernel, by decide +kernel, by decide +kernel, ?_⟩
  intro j y hj _ h
  fin_cases j <;> first | (cases h; decide) | exact absurd hj (by decide)

theorem witness_CloseMakesTheSessionClosing :
    (arrive base 0 .closeSession).takesArrived 0 7 .closeSession ∧ (arrive base 0 .closeSession).admin = some 0 ∧
      (arrive base 0 .closeSession).session 0 = some ⟨.attached, 0x10, true, 10, some 1000⟩ ∧
      (arrive base 1 .closeSession).takesArrived 1 7 .closeSession ∧ (arrive base 1 .closeSession).admin ≠ some 1 := by decide +kernel

theorem witness_QueriesReportTheState :
    (arrive base 3 (.ping (List.replicate 8 1))).takesArrived 3 7 (.ping (List.replicate 8 1)) ∧
      (arrive base 1 .querySession).takesArrived 1 7 .querySession ∧ (arrive base 1 .queryHub).takesArrived 1 7 .queryHub := by decide +kernel

theorem witness_LeaseExpiryTearsTheSessionDown :
    let s : State := { base with clock := 1000 }
    s.settled = true ∧ s.resetRequest = none ∧ s.session 0 = some ⟨.attached, 0x10, true, 10, some 1000⟩ ∧ (s.clock - 1000).toNat < 2 ^ 31 := by
  decide +kernel

theorem witness_CleanTeardownAnswersTheClose :
    let s : State := { base with links := setAt base.links 3 { base.link 3 with tags := [7] } }
    s.resetRequest = none ∧ s.inProgress = false ∧ s.session 3 = some ⟨.closing, 0x13, false, 0, none⟩ ∧ (s.link 3).tags = [7] := by decide +kernel

def adminCell : Cell := ⟨0, false, 0, .adminWrite, false⟩

theorem witness_CellChecksFaultInOrder :
    (base.attached 1 = true ∧ (base.cell 0).access = .openAll ∧ ((withCell base 0 adminCell).cell 0).access = .adminWrite ∧
        ((withCell base 0 ⟨0, false, 0, .owned 0x11, false⟩).cell 0).access = .owned 0x11) ∧
      (cellIndexOf (.watch 1024) = some 1024 ∧ 1023 < (1024 : Half).toNat ∧ (askCell base 1 (.watch 1024)).takesCell 1 7 (.watch 1024)) ∧
      (∀ r, r = .write (cellSubject 1023) 1 ∨ r = .fetchAdd (cellSubject 1023) 1 ∨ r = .reserve (cellSubject 1023) ∨ r = .commit (cellSubject 1023) 1 →
        (askCell (withCell base 1023 adminCell) 1 r).takesCell 1 7 r ∧ (askCell (withCell base 1023 adminCell) 1 r).hasWriteAccess 1 1023 = false) := by
  refine ⟨by decide +kernel, by decide +kernel, ?_⟩
  rintro r (rfl | rfl | rfl | rfl) <;> decide +kernel

def goodCell : Cell := ⟨8, false, 1, .openAll, false⟩
def failingCell : Cell := ⟨8, true, 1, .openAll, false⟩
def poisonedCell : Cell := ⟨8, false, 1, .openAll, true⟩

theorem witness_ReadReturnsTheCellOrFaults :
    ∀ x, x = goodCell ∨ x = failingCell ∨ x = poisonedCell →
      (askCell (withCell base 1023 x) 1 (.read (cellSubject 1023))).takesCell 1 7 (.read (cellSubject 1023)) ∧
        (askCell (withCell base 1023 x) 1 (.read (cellSubject 1023))).cell 1023 = x := by
  rintro x (rfl | rfl | rfl) <;> decide +kernel

/-- Link 1 holds cell 0 at its version. -/
def holding : State := withEntry base 1 ⟨.held 0 0, 0⟩

/-- Each request of link 1 that reads the value of cell 1023 meets a poisoned and a failing cell, and a COMMIT with an entry ARMED or HELD on it. -/
theorem witness_integrity_faults :
    (∀ x r, (x = failingCell ∨ x = poisonedCell) ∧
          (r = .fetchAdd (cellSubject 1023) 1 ∨ r = .reserve (cellSubject 1023) ∨ r = .watch (cellSubject 1023)) →
        let s := askCell (withCell base 1023 x) 1 r
        s.takesCell 1 7 r ∧ s.hasWriteAccess 1 1023 = true ∧ s.heldByOther 1 1023 = false ∧
          ((s.cell 1023).poisoned = true ∨ (s.cell 1023).checkFails = true) ∧
          (∀ w ∈ s.watches, ¬(w.link = 1 ∧ w.cell = 1023)) ∧ s.watchCount 1 < 4) ∧
      ∀ x e, (x = failingCell ∨ x = poisonedCell) ∧ (e = Reservation.armed 1023 1 ∨ e = .held 1023 1) →
        let s := askCell (withEntry (withCell base 1023 x) 1 ⟨e, 0⟩) 1 (.commit (cellSubject 1023) 1)
        s.takesCell 1 7 (.commit (cellSubject 1023) 1) ∧ s.hasWriteAccess 1 1023 = true ∧ s.heldByOther 1 1023 = false ∧
          ((s.cell 1023).poisoned = true ∨ (s.cell 1023).checkFails = true) ∧ (s.entry 1).reservation = e := by
  constructor
  · rintro x r ⟨rfl | rfl, rfl | rfl | rfl⟩ <;> decide +kernel
  · rintro x e ⟨rfl | rfl, rfl | rfl⟩ <;> decide +kernel

theorem witness_WriteStoresTheValue :
    ((askCell base 1 (.write (cellSubject 0) 1)).takesCell 1 7 (.write (cellSubject 0) 1) ∧
        (askCell base 1 (.write (cellSubject 0) 1)).hasWriteAccess 1 0 = true ∧ (askCell base 1 (.write (cellSubject 0) 1)).heldByOther 1 0 = false ∧
        (askCell base 1 (.write (cellSubject 0) 1)).holderOf 0 = none) ∧
      ((askCell holding 1 (.write (cellSubject 0) 1)).takesCell 1 7 (.write (cellSubject 0) 1) ∧
        (askCell holding 1 (.write (cellSubject 0) 1)).heldByOther 1 0 = false ∧ (askCell holding 1 (.write (cellSubject 0) 1)).holderOf 0 = some 1 ∧
        ((askCell holding 1 (.write (cellSubject 0) 1)).entry 1).reservation = .held 0 0) := by decide +kernel

theorem witness_FetchAddAddsTheDelta :
    ((askCell base 1 (.fetchAdd (cellSubject 1023) 1)).takesCell 1 7 (.fetchAdd (cellSubject 1023) 1) ∧
        (askCell base 1 (.fetchAdd (cellSubject 1023) 1)).hasWriteAccess 1 1023 = true ∧
        (askCell base 1 (.fetchAdd (cellSubject 1023) 1)).holderOf 1023 = none ∧ (base.cell 1023).poisoned = false ∧
        (base.cell 1023).checkFails = false) ∧
      ((askCell holding 1 (.fetchAdd (cellSubject 0) 1)).takesCell 1 7 (.fetchAdd (cellSubject 0) 1) ∧
        (askCell holding 1 (.fetchAdd (cellSubject 0) 1)).holderOf 0 = some 1 ∧
        ((askCell holding 1 (.fetchAdd (cellSubject 0) 1)).entry 1).reservation = .held 0 0) := by decide +kernel

theorem witness_SetCellClassChangesOnlyTheClass :
    (∀ cls owner, cls = CellClass.openAll ∧ owner = 0 ∨ cls = .adminWrite ∧ owner = 0 ∨ cls = .owned ∧ owner = 0xFFFF →
        (askCell base 0 (.setCellClass (cellSubject 1023) cls owner)).takesCell 0 7 (.setCellClass (cellSubject 1023) cls owner) ∧
          (cls = .owned → owner ≠ 0) ∧ (askCell base 0 (.setCellClass (cellSubject 1023) cls owner)).admin = some 0) ∧
      (askCell base 1 (.setCellClass (cellSubject 0) .owned 0)).takesCell 1 7 (.setCellClass (cellSubject 0) .owned 0) ∧
      (askCell base 1 (.setCellClass (cellSubject 0) .openAll 0)).takesCell 1 7 (.setCellClass (cellSubject 0) .openAll 0) ∧
      (askCell base 1 (.setCellClass (cellSubject 0) .openAll 0)).admin ≠ some 1 := by
  refine ⟨?_, by decide +kernel, by decide +kernel, by decide +kernel⟩
  rintro cls owner (⟨rfl, rfl⟩ | ⟨rfl, rfl⟩ | ⟨rfl, rfl⟩) <;> decide +kernel

theorem witness_HeldCellDefersModifications :
    ∀ r, r = .write (cellSubject 0) 1 ∨ r = .commit (cellSubject 0) 1 ∨ r = .fetchAdd (cellSubject 0) 1 →
      let s : State := { askCell holding 2 r with dwq := List.replicate 31 ⟨2, 1, .write, 0, 0⟩ }
      s.takesCell 2 7 r ∧ s.hasWriteAccess 2 0 = true ∧ s.holderOf 0 = some 1 ∧ (1 : Link) ≠ 2 ∧ s.dwq.length < 32 := by
  rintro r (rfl | rfl | rfl) <;> decide +kernel

theorem witness_ReserveArmsOrEarnsAHold :
    (∀ s : State, s = { base with config := ⟨0, 20, 0⟩ } ∨ s = withEntry base 1 ⟨.armed 9 0, 3⟩ ∨ s = withEntry base 1 ⟨.held 0 0, 0⟩ ∨
        s = (withEntry base 2 ⟨.held 1023 0, 0⟩).setEntry 1 ⟨.broken 7, 15⟩ →
      (askCell s 1 (.reserve (cellSubject 1023))).takesCell 1 7 (.reserve (cellSubject 1023)) ∧
        (askCell s 1 (.reserve (cellSubject 1023))).hasWriteAccess 1 1023 = true ∧ (s.cell 1023).poisoned = false ∧
        (s.cell 1023).checkFails = false ∧
        (s.config.threshold = 0 ∨ (s.entry 1).failures < s.config.threshold ∨
          (s.heldByOther 1 1023 = true ∧ (s.entry 1).reservation = .broken 7))) ∧
      (withEntry base 1 ⟨.held 0 0, 0⟩).holds.any (isHoldOf 1 0) = true ∧
      ((askCell (withEntry base 1 ⟨.armed 9 0, 4⟩) 1 (.reserve (cellSubject 0))).takesCell 1 7 (.reserve (cellSubject 0)) ∧
        (withEntry base 1 ⟨.armed 9 0, 4⟩).config.threshold ≠ 0 ∧
        (withEntry base 1 ⟨.armed 9 0, 4⟩).config.threshold ≤ ((withEntry base 1 ⟨.armed 9 0, 4⟩).entry 1).failures ∧
        (withEntry base 1 ⟨.armed 9 0, 4⟩).heldByOther 1 0 = false ∧
        ∀ k v, ((withEntry base 1 ⟨.armed 9 0, 4⟩).entry 1).reservation ≠ .held k v) := by
  refine ⟨?_, by decide +kernel, by decide +kernel, by decide, by decide +kernel, by decide +kernel, fun _ _ => nofun⟩
  rintro s (rfl | rfl | rfl | rfl) <;> decide +kernel

theorem witness_CommitIsJudgedByTheEntry :
    (∀ s : State, s = withEntry base 1 ⟨.armed 0 0, 15⟩ ∨ s = holding ∨ s = base ∨ s = withEntry base 1 ⟨.armed 1023 0, 0⟩ ∨
        s = withEntry base 1 ⟨.held 1023 0, 0⟩ ∨ s = withEntry base 1 ⟨.broken 1023, 1⟩ →
      (askCell s 1 (.commit (cellSubject 0) 5)).takesCell 1 7 (.commit (cellSubject 0) 5) ∧
        (askCell s 1 (.commit (cellSubject 0) 5)).hasWriteAccess 1 0 = true ∧ (askCell s 1 (.commit (cellSubject 0) 5)).heldByOther 1 0 = false ∧
        ((askCell s 1 (.commit (cellSubject 0) 5)).cell 0).poisoned = false ∧ ((askCell s 1 (.commit (cellSubject 0) 5)).cell 0).checkFails = false) ∧
      (withEntry base 1 ⟨.armed 0 0, 15⟩).holderOf 0 = none ∧ holding.holderOf 0 = some 1 ∧
      (withEntry base 1 ⟨.armed 0 0, 15⟩).entry 1 = ⟨.armed 0 0, 15⟩ ∧ holding.entry 1 = ⟨.held 0 0, 0⟩ ∧ base.entry 1 = ⟨.none, 0⟩ := by
  refine ⟨?_, by decide +kernel⟩
  rintro s (rfl | rfl | rfl | rfl | rfl | rfl) <;> decide +kernel

theorem witness_BrokenCommitConflicts :
    let s := askCell (withEntry base 1 ⟨.broken 1023, 15⟩) 1 (.commit (cellSubject 1023) 5)
    s.takesCell 1 7 (.commit (cellSubject 1023) 5) ∧ s.hasWriteAccess 1 1023 = true ∧ s.heldByOther 1 1023 = false ∧
      (s.entry 1).reservation = .broken 1023 := by decide +kernel

theorem witness_ReleaseEndsTheReservation :
    (askCell holding 1 .release).takesInOrder 1 7 .release ∧ (holding.entry 1).reservation = .held 0 0 ∧
      holding.holds.any (isHoldOf 1 0) = true ∧ (askCell base 1 .release).takesInOrder 1 7 .release ∧ (base.entry 1).reservation = .none := by
  decide +kernel

theorem witness_DrainJudgesEntriesInOrder :
    (base.settled = true ∧ base.resetRequest = none ∧ ({ base with drains := [1023, 0] } : State).drains = 1023 :: [0]) ∧
      (∀ e ∈ base.dwq, e.cell ≠ 0) ∧
      ((paused base).resetRequest = none ∧ (paused base).forwardPosts = [] ∧ (paused base).draining = some 1023) ∧
      (base.forwardPosts = [] ∧ ({ base with dwq := [⟨2, 1, .write, 5, 0⟩, ⟨2, 2, .commit, 0, 0⟩] } : State).dwq =
        [⟨2, 1, .write, 5, 0⟩] ++ ⟨2, 2, .commit, 0, 0⟩ :: []) ∧
      (base.hasWriteAccess 2 0 = true ∧ base.holderOf 0 = none ∧ (withCell base 0 adminCell).hasWriteAccess 2 0 = false) := by decide +kernel

/-- The session of a deferred request, link 2, with an entry in each state, on a cell whose value is good, failing or poisoned. -/
theorem witness_DrainJudgesEntriesInOrder_value :
    (∀ x, x = goodCell ∨ x = failingCell ∨ x = poisonedCell →
        let s := withEntry (withCell base 0 x) 2 ⟨.armed 0 1, 3⟩
        s.hasWriteAccess 2 0 = true ∧ s.holderOf 0 = none ∧ s.cell 0 = x ∧ (s.entry 2).reservation = .armed 0 1) ∧
      ∀ e, e = Reservation.none ∨ e = .armed 1023 0 ∨ e = .held 1023 0 ∨ e = .broken 1023 →
        (withEntry base 2 ⟨e, 0⟩).hasWriteAccess 2 0 = true ∧ ((withEntry base 2 ⟨e, 0⟩).entry 2).reservation = e ∧ (1023 : CellIx) ≠ 0 := by
  constructor
  · rintro x (rfl | rfl | rfl) <;> decide +kernel
  · rintro e (rfl | rfl | rfl | rfl) <;> decide +kernel

theorem witness_HoldExpiryDowngradesTheHolder :
    let s : State := { withEntry base 1 ⟨.held 1023 0, 0⟩ with clock := 120 }
    s.settled = true ∧ s.resetRequest = none ∧ (⟨1023, 1, .standing 120⟩ : HoldRecord) ∈ s.holds ∧ (s.clock - 120).toNat < 2 ^ 31 ∧
      (∀ k ∈ s.holds, k.cell = 1023 → k = ⟨1023, 1, .standing 120⟩) ∧ (s.entry 1).reservation = .held 1023 0 ∧
      s.pending = [] ∧ s.rstn = true ∧ step s = .next (after (step s)) := by
  refine ⟨by decide +kernel, rfl, by decide +kernel, by decide +kernel, by decide +kernel, by decide +kernel, rfl, rfl, rfl⟩

/-- Link 1 has watches on the cells given, the first with 255 changes pending. -/
def watches (cells : List CellIx) : State :=
  { base with watches := ⟨2, 1023, none⟩ :: (cells.zip [some 255, none, none, none]).map fun p => ⟨1, p.1, p.2⟩ }

theorem witness_WatchAddsAndUnwatchRemoves :
    ((askCell (watches [0, 1, 2]) 1 (.watch (cellSubject 1023))).takesCell 1 7 (.watch (cellSubject 1023)) ∧
        (∀ w ∈ (watches [0, 1, 2]).watches, ¬(w.link = 1 ∧ w.cell = 1023)) ∧ (watches [0, 1, 2]).watchCount 1 < 4) ∧
      ((askCell (watches [0, 1, 2, 3]) 1 (.unwatch (cellSubject 0))).takesInOrder 1 7 (.unwatch (cellSubject 0)) ∧
        (⟨1, 0, some 255⟩ : Watch) ∈ (watches [0, 1, 2, 3]).watches ∧
        ∀ v ∈ (watches [0, 1, 2, 3]).watches, v.link = 1 → v.cell = 0 → v = ⟨1, 0, some 255⟩) ∧
      (askCell (watches [0]) 1 (.unwatch (cellSubject 1023))).takesInOrder 1 7 (.unwatch (cellSubject 1023)) ∧
      ((askCell (watches [0]) 1 (.watch (cellSubject 0))).takesCell 1 7 (.watch (cellSubject 0)) ∧
        ¬(∀ w ∈ (watches [0]).watches, ¬(w.link = 1 ∧ w.cell = 0))) ∧
      ((askCell (watches [0, 1, 2, 3]) 1 (.watch (cellSubject 1023))).takesCell 1 7 (.watch (cellSubject 1023)) ∧
        (∀ w ∈ (watches [0, 1, 2, 3]).watches, ¬(w.link = 1 ∧ w.cell = 1023)) ∧ 4 ≤ (watches [0, 1, 2, 3]).watchCount 1) ∧
      (askCell base 1 (.unwatch 1024)).takesInOrder 1 7 (.unwatch 1024) ∧ 1023 < (1024 : Half).toNat := by decide +kernel

/-- Queue 31 as nobody owns it. -/
def unowned (intended : Option Half) : State := base.setQueue 31 { queueOf1 [normal] .refuse none with owner := none, intended := intended }

theorem witness_CreateAndDestroyQueue :
    (∀ s : State, ∀ l : Link, ∀ capacity : Byte, (l = 0 ∨ l = 1) ∧ (capacity = 1 ∨ capacity = 64) ∧
          s = askQueue base l (.createQueue (queueField 31) 5 capacity .refuse 0xFF 0 true) →
        s.takesQueue l 7 (.createQueue (queueField 31) 5 capacity .refuse 0xFF 0 true) ∧ 1 ≤ capacity.toNat ∧ capacity.toNat ≤ 64 ∧
          s.queue 31 = none ∧ s.admin = some 0) ∧
      ((askQueue (owned [] .refuse (some ⟨1, 4, 500⟩)) 0 (.destroyQueue (queueField 31))).takesQueue 0 7 (.destroyQueue (queueField 31)) ∧
        (owned [] .refuse (some ⟨1, 4, 500⟩)).queue 31 = some (queueOf1 [] .refuse (some ⟨1, 4, 500⟩)) ∧
        (askQueue (owned [] .refuse none) 1 (.destroyQueue (queueField 31))).takesQueue 1 7 (.destroyQueue (queueField 31)) ∧
        base.admin ≠ some 1) := by
  refine ⟨?_, by decide +kernel⟩
  rintro s l capacity ⟨rfl | rfl, rfl | rfl, rfl⟩ <;> decide +kernel

theorem witness_BindAndUnbindQueue :
    (∀ s : State, s = unowned none ∨ s = unowned (some 0x11) ∨ s = unowned (some 0x12) ∨ s = owned [normal] .refuse none →
        (askQueue s 1 (.bind (queueField 31))).takesQueue 1 7 (.bind (queueField 31))) ∧
      ((unowned (some 0x11)).queue 31 = some { queueOf1 [normal] .refuse none with owner := none, intended := some 0x11 } ∧
        base.session 1 = some ⟨.attached, 0x11, false, 0, none⟩ ∧ (0x11 : Half) ≠ 0x12) ∧
      (askQueue (owned [] .refuse (some ⟨1, 4, 500⟩)) 1 (.unbind (queueField 31))).takesQueue 1 7 (.unbind (queueField 31)) ∧
      (owned [] .refuse (some ⟨1, 4, 500⟩)).queue 31 = some (queueOf1 [] .refuse (some ⟨1, 4, 500⟩)) := by
  refine ⟨?_, by decide +kernel⟩
  rintro s (rfl | rfl | rfl | rfl) <;> decide +kernel

/-- A pool with no slot free: queues 0 to 3 hold 64 messages each, and queue 31 none. -/
def fullPool : State :=
  { owned [] .refuse none with
    queues := [0, 1, 2, 3].map (fun q => (q, { queueOf1 (List.replicate 64 normal) .refuse none with capacity := 64 })) ++
      [(31, queueOf1 [] .refuse none)] }

theorem witness_PostIsPlacedByTheFirstCase :
    (∀ ms overflow take, (ms, overflow, take) ∈ [([], Overflow.refuse, some (⟨1, 4, 500⟩ : WaitingTake)), ([normal], .refuse, none),
          ([urgent, normal], .dropOldest, none), ([urgent, urgent], .dropOldest, none), ([normal, normal], .refuse, none)] →
        let s := askQueue (owned ms overflow take) 1 (.post (queueField 31) true (List.replicate 48 1))
        s.takesQueue 1 7 (.post (queueField 31) true (List.replicate 48 1)) ∧ s.queue 31 = some (queueOf1 ms overflow take) ∧
          (queueOf1 ms overflow take).mask.getLsbD (1 : Link).val = true ∧ 0 < s.slotsFree) ∧
      ([normal].length < 2 ∧ 2 ≤ [urgent, normal].length ∧ [urgent, normal] = [urgent] ++ normal :: [] ∧ normal.urgent = false ∧
        (∀ y ∈ [urgent], y.urgent = true) ∧ [urgent, urgent] = [] ++ urgent :: [urgent] ∧ ∀ y ∈ [urgent, urgent], y.urgent = true) ∧
      (let s := askQueue fullPool 1 (.post (queueField 31) true [])
      s.takesQueue 1 7 (.post (queueField 31) true []) ∧ s.queue 31 = some (queueOf1 [] .refuse none) ∧ s.slotsFree = 0) := by
  refine ⟨?_, by decide +kernel, by decide +kernel⟩
  intro ms overflow take h
  simp only [List.mem_cons, Prod.mk.injEq, List.not_mem_nil, or_false] at h
  rcases h with ⟨rfl, rfl, rfl⟩ | ⟨rfl, rfl, rfl⟩ | ⟨rfl, rfl, rfl⟩ | ⟨rfl, rfl, rfl⟩ | ⟨rfl, rfl, rfl⟩ <;> decide +kernel

theorem witness_QueueChecksFaultInOrder :
    ((askQueue base 1 (.post 32 false [])).takesQueue 1 7 (.post 32 false []) ∧ 31 < (32 : Byte).toNat ∧
        (askQueue base 1 (.post (queueField 31) false [])).takesQueue 1 7 (.post (queueField 31) false []) ∧ base.queue 31 = none ∧
        (askQueue (owned [] .refuse none) 2 (.post (queueField 31) false [])).takesQueue 2 7 (.post (queueField 31) false []) ∧
        (queueOf1 [] .refuse none).mask.getLsbD (2 : Link).val = false) ∧
      (∀ r, r = .unbind (queueField 31) ∨ r = .take (queueField 31) 0 ∨ r = .peek (queueField 31) →
        (askQueue base 2 r).takesQueue 2 7 r ∧ (askQueue (owned [] .refuse none) 2 r).takesQueue 2 7 r ∧
          (askQueue (unowned none) 2 r).takesQueue 2 7 r) ∧
      (∀ r, r = .unbind 32 ∨ r = .take 255 0 ∨ r = .peek 32 → (askQueue base 2 r).takesQueue 2 7 r) := by
  refine ⟨by decide +kernel, ?_, ?_⟩
  · rintro r (rfl | rfl | rfl) <;> decide +kernel
  · rintro r (rfl | rfl | rfl) <;> decide +kernel

theorem witness_QueueChecksFaultInOrder_shape :
    (∀ queue r, (queue = 32 ∨ queue = queueField 31) ∧
          (r = .createQueue queue 5 64 .refuse 0 0 true ∨ r = .createQueue queue 5 0 .refuse 0 0 true ∨ r = .createQueue queue 5 65 .refuse 0 0 true ∨
            r = .destroyQueue queue ∨ r = .bind queue ∨ r = .queryQueue queue) →
        queueIndexOf r = some queue ∧ (askQueue base 1 r).takesQueue 1 7 r ∧ (askQueue base 0 r).takesQueue 0 7 r ∧
          (askQueue (owned [] .refuse none) 0 r).takesQueue 0 7 r ∧ (askQueue (unowned none) 0 r).takesQueue 0 7 r) ∧
      (base.admin = some 0 ∧ base.admin ≠ some 1 ∧ base.queue 31 = none ∧ (queueField 31).toNat ≤ 31 ∧ 31 < (32 : Byte).toNat) ∧
      64 < (65 : Byte).toNat ∧ (owned [] .refuse none).queue 31 = some (queueOf1 [] .refuse none) := by
  refine ⟨?_, by decide +kernel⟩
  rintro queue r ⟨rfl | rfl, rfl | rfl | rfl | rfl | rfl | rfl⟩ <;> decide +kernel

theorem witness_TakeRemovesTheHeadOrWaits :
    (∀ ms take wait, (ms, take, wait) ∈ [([normal, urgent], none, (0 : Half)), ([normal], none, 0), ([], none, 0), ([], none, 0xFFFF),
          ([], some (⟨1, 4, 500⟩ : WaitingTake), 1)] →
        let s := askQueue (owned ms .refuse take) 1 (.take (queueField 31) wait)
        s.takesQueue 1 7 (.take (queueField 31) wait) ∧ s.queue 31 = some (queueOf1 ms .refuse take) ∧
          (queueOf1 ms .refuse take).owner = some 1) ∧
      ([normal, urgent] = [normal] ++ urgent :: [] ∧ urgent.urgent = true ∧ ∀ y ∈ [normal], y.urgent = false) := by
  refine ⟨?_, by decide +kernel⟩
  intro ms take wait h
  simp only [List.mem_cons, Prod.mk.injEq, List.not_mem_nil, or_false] at h
  rcases h with ⟨rfl, rfl, rfl⟩ | ⟨rfl, rfl, rfl⟩ | ⟨rfl, rfl, rfl⟩ | ⟨rfl, rfl, rfl⟩ | ⟨rfl, rfl, rfl⟩ <;> decide +kernel

theorem witness_PeekAndQueryQueueChangeNothing :
    (∀ ms, ms ∈ [[normal, urgent], []] →
        let s := askQueue (owned ms .refuse none) 1 (.peek (queueField 31))
        s.takesQueue 1 7 (.peek (queueField 31)) ∧ s.queue 31 = some (queueOf1 ms .refuse none) ∧ (queueOf1 ms .refuse none).owner = some 1) ∧
      ((askQueue base 2 (.queryQueue (queueField 31))).takesQueue 2 7 (.queryQueue (queueField 31)) ∧ base.queue 31 = none ∧
        (askQueue (owned [] .refuse none) 2 (.queryQueue (queueField 31))).takesQueue 2 7 (.queryQueue (queueField 31)) ∧
        (owned [] .refuse none).queue 31 = some (queueOf1 [] .refuse none)) := by
  refine ⟨?_, by decide +kernel⟩
  intro ms h
  simp only [List.mem_cons, List.not_mem_nil, or_false] at h
  rcases h with rfl | rfl <;> decide +kernel

/-- What a designated queue can be: with room, empty, with a waiting take, at capacity, or below it with an empty pool; and for a placed record the
messages that DROP_OLDEST parts. -/
theorem witness_forward_places :
    (∀ ms overflow take, (ms, overflow, take) ∈ [([], Overflow.refuse, some (⟨1, 4, 500⟩ : WaitingTake)), ([normal], .refuse, none),
          ([], .refuse, none), ([urgent, normal], .dropOldest, none)] →
        (owned ms overflow take).queue 31 = some (queueOf1 ms overflow take) ∧ ¬NoPlace (owned ms overflow take) (queueOf1 ms overflow take)) ∧
      ((owned [normal, normal] .refuse none).queue 31 = some (queueOf1 [normal, normal] .refuse none) ∧
        NoPlace (owned [normal, normal] .refuse none) (queueOf1 [normal, normal] .refuse none)) ∧
      (fullPool.queue 31 = some (queueOf1 [] .refuse none) ∧ NoPlace fullPool (queueOf1 [] .refuse none)) ∧ base.queue 31 = none := by
  refine ⟨?_, ⟨by decide +kernel, by unfold NoPlace; decide +kernel⟩, ⟨by decide +kernel, by unfold NoPlace; decide +kernel⟩, by decide +kernel⟩
  intro ms overflow take h
  simp only [List.mem_cons, Prod.mk.injEq, List.not_mem_nil, or_false] at h
  rcases h with ⟨rfl, rfl, rfl⟩ | ⟨rfl, rfl, rfl⟩ | ⟨rfl, rfl, rfl⟩ | ⟨rfl, rfl, rfl⟩ <;> exact ⟨by decide +kernel, by unfold NoPlace; decide +kernel⟩

theorem witness_ForwardPostCompletesTheRequest :
    (∀ resume, resume = none ∨ resume = some (1023 : CellIx) →
      (posted base resume none).resetRequest = none ∧ (posted base resume none).forwardPosts =
        ⟨2, 7, 0x11, [0, 0, 0, 0, 0], 31, [3, 0x30, 0x11, 7, 0, 0, 0, 0, 1, 0], resume, none⟩ :: []) ∧
      (∃ e ∈ (paused base).dwq, e.cell = 1023) ∧ ¬∃ e ∈ base.dwq, e.cell = 1023 := by
  refine ⟨?_, by decide +kernel, by decide +kernel⟩
  rintro resume (rfl | rfl) <;> exact ⟨rfl, rfl⟩

theorem witness_WaitingTakeExpiresEmpty :
    let s : State := { owned [] .refuse (some ⟨1, 4, 500⟩) with clock := 500 }
    s.settled = true ∧ (paused s).inProgress = true ∧ s.resetRequest = none ∧
      s.queue 31 = some (queueOf1 [] .refuse (some ⟨1, 4, 500⟩)) ∧ (s.clock - 500).toNat < 2 ^ 31 := by
  decide +kernel

/-- Link 1's policy for ACCESS faults, with a designation. -/
def withPolicy (s : State) (p : FaultPolicy) (designation : Option QueueIx) : State :=
  s.setFaultRecord 1 { policies := setAt (Vector.replicate 6 .refuse) (classIndex .access) p, designation := designation }

/-- The queues that a record meets are those of `witness_forward_places`. -/
theorem witness_FaultPolicyDecidesTheReply :
    FaultCode.faultClass .cellClass = .access ∧ (withPolicy base .refuse none).policy 1 .access = .refuse ∧
      (withPolicy base .absorb none).policy 1 .access = .absorb ∧
      ((withPolicy base .forward none).policy 1 .access = .forward ∧ ((withPolicy base .forward none).faultRecord 1).designation = none) ∧
      ((withPolicy base .forward (some 31)).policy 1 .access = .forward ∧
        ((withPolicy base .forward (some 31)).faultRecord 1).designation = some 31) := by decide +kernel

theorem witness_PolicyRequestsChangeTheFaultRecord :
    ((arrive base 1 (.setPolicy .integrity .forward)).takesArrived 1 7 (.setPolicy .integrity .forward) ∧
        (arrive base 1 (.setPolicy .form .refuse)).takesArrived 1 7 (.setPolicy .form .refuse) ∧
        (arrive base 1 (.setPolicy .form .absorb)).takesArrived 1 7 (.setPolicy .form .absorb) ∧
        base.session 1 = some ⟨.attached, 0x11, false, 0, none⟩) ∧
      (arrive base 1 .clearFaults).takesArrived 1 7 .clearFaults ∧
      (∀ queue : Byte, queue = 0xFF ∨ queue = queueField 31 ∨ queue = queueField 30 ∨ queue = 32 →
        (arrive (owned [] .refuse none) 1 (.setForward queue)).takesArrived 1 7 (.setForward queue)) ∧
      (owned [] .refuse none).queue 31 = some (queueOf1 [] .refuse none) ∧ (owned [] .refuse none).queue 30 = none := by
  refine ⟨by decide +kernel, by decide +kernel, ?_, by decide +kernel⟩
  rintro queue (rfl | rfl | rfl | rfl) <;> decide +kernel

/-- Link 0 is the admin and no other session is eligible. -/
def noOther : State := { base with sessions := setAt base.sessions 2 none }

theorem witness_YieldAdminPassesTheRole :
    (∀ target : Byte, target = 0 ∨ target = 1 ∨ target = 2 ∨ target = 7 ∨ target = 0xFF ∨ target = 8 →
        (arrive base 0 (.yieldAdmin target)).takesArrived 0 7 (.yieldAdmin target) ∧
        (arrive base 1 (.yieldAdmin target)).takesArrived 1 7 (.yieldAdmin target)) ∧
      (base.admin = some 0 ∧ base.eligible 2 = true ∧ base.eligible 1 = false ∧ (∀ j : Link, j < 2 → j ≠ 0 → base.eligible j = false)) ∧
      ((noOther.admin = some 0 ∧ (arrive noOther 0 (.yieldAdmin 0xFF)).takesArrived 0 7 (.yieldAdmin 0xFF)) ∧
        ∀ k : Link, k ≠ 0 → noOther.eligible k = false) := by
  refine ⟨?_, by decide +kernel, by decide +kernel⟩
  rintro target (rfl | rfl | rfl | rfl | rfl | rfl) <;> decide +kernel

theorem witness_ConfigureSetsAllThreeFields :
    (arrive base 0 (.configure 15 255 9)).takesArrived 0 7 (.configure 15 255 9) ∧ (arrive base 0 (.configure 0 1 9)).takesArrived 0 7 (.configure 0 1 9) ∧
      base.admin = some 0 ∧ (arrive base 0 (.configure 16 0 9)).takesArrived 0 7 (.configure 16 0 9) ∧
      (arrive base 0 (.configure 15 0 9)).takesArrived 0 7 (.configure 15 0 9) ∧
      (arrive base 1 (.configure 15 1 9)).takesArrived 1 7 (.configure 15 1 9) ∧ base.admin ≠ some 1 := by decide +kernel

theorem witness_HubResetSetsTheResetRequest :
    (arrive base 0 (.hubReset .keepCells)).takesArrived 0 7 (.hubReset .keepCells) ∧ base.admin = some 0 ∧
      (arrive base 1 (.hubReset .clear)).takesArrived 1 7 (.hubReset .clear) ∧ base.admin ≠ some 1 := by decide +kernel

theorem witness_NoWorkWhileAResetRequestStands :
    ({ base with resetRequest := some ⟨.keepCells, 0⟩ } : State).resetRequest = some ⟨.keepCells, 0⟩ := rfl

/-- The reset state meets every invariant, and its step answers a next state. -/
theorem witness_invariants :
    (CellsWf State.reset.cells ∧ HubWf State.reset ∧ HoldTimesWf State.reset) ∧ (ReservationsWf State.reset ∧ HoldsWf State.reset ∧ RequestsWf State.reset) ∧
      WatchesWf State.reset ∧
      (QueuesWf State.reset ∧ FaultsWf State.reset) ∧ SessionsWf State.reset ∧ RoleWf State.reset ∧ LinksWf State.reset ∧
      ∃ t, step State.reset = .next t := by
  refine ⟨⟨by decide, by unfold HubWf; decide, fun _ => nofun⟩, ⟨?_, ?_, ?_⟩, ?_, ⟨?_, ?_⟩, ?_, ?_, ?_, _, rfl⟩
  · intro l; fin_cases l <;> exact ⟨by decide, trivial⟩
  · refine ⟨by decide, nofun, by decide, fun c => ⟨nofun, fun ⟨_, h, _⟩ => nomatch h⟩, fun l _ => ?_, by decide, by decide, nofun, by decide, fun _ => rfl⟩
    fin_cases l <;> rfl
  · intro l; fin_cases l <;> exact ⟨by decide, by decide, nofun, fun _ => rfl⟩
  · unfold WatchesWf; exact ⟨by decide, by decide, nofun⟩
  · unfold QueuesWf; exact ⟨by decide, nofun, by decide⟩
  · intro l; fin_cases l <;> exact ⟨by decide, nofun⟩
  · refine ⟨?_, ?_⟩
    · intro l x h; fin_cases l <;> cases h
    · intro k l x y h; fin_cases k <;> cases h
  · unfold RoleWf; exact ⟨nofun, by decide, by decide, nofun⟩
  · intro l; fin_cases l <;> exact ⟨by decide, by decide, trivial, by decide, by decide, by decide, by decide, by decide, by decide, by decide, by decide⟩

end Sys2Proof.Tests
end

section
/-! PROOF. Reservations and conditional commit: a COMMIT on a BROKEN entry is a CONFLICT (R29), and RELEASE ends the reservation (R32). -/

namespace Sys2Proof.Machine

/-! ## COMMIT on a BROKEN entry (R5, R26, R29) -/

/-- Only the last of two writes of one entry stands. -/
@[simp] theorem State.setEntry_setEntry (s : State) (l : Link) (d e : Entry) : (s.setEntry l d).setEntry l e = s.setEntry l e := by
  simp [State.setEntry]

/-- Taking a request from its line changes no one's access to a cell. -/
@[simp] theorem State.cellTaken_hasWriteAccess (s : State) (l k : Link) (c : CellIx) :
    (s.cellTaken l).hasWriteAccess k c = s.hasWriteAccess k c := rfl

/-- Taking a request from its line changes no hold. -/
@[simp] theorem State.cellTaken_heldByOther (s : State) (l k : Link) (c : CellIx) :
    (s.cellTaken l).heldByOther k c = s.heldByOther k c := rfl

/-- A COMMIT that passes its checks and is not deferred is judged by its session's entry (R5, R27). -/
theorem State.takeCommit_judged {s : State} {l : Link} {c : CellIx} (ha : s.hasWriteAccess l c = true)
    (hh : s.heldByOther l c = false) (tag : Tag) (v : Quad) :
    s.takeCommit l tag (cellSubject c) v = s.judgeCommit l tag c v false none := by
  simp [State.takeCommit, ha, hh]

theorem exec_commit (l : Link) (tag : Tag) (cell : Half) (v : Quad) (s : State) :
    exec (.commit l tag cell v) s = s.commandCell l tag (.commit cell v) fun t => t.takeCommit l tag cell v := rfl

/-- A COMMIT whose turn it is, with write access to a cell that no other session holds, is judged at once. -/
theorem exec_commit_judged {s : State} {l : Link} {tag : Tag} {c : CellIx} {v : Quad}
    (ht : s.takesCell l tag (.commit (cellSubject c) v)) (ha : s.hasWriteAccess l c = true) (hh : s.heldByOther l c = false) :
    exec (.commit l tag (cellSubject c) v) s = .next ((s.cellTaken l).judgeCommit l tag c v false none) := by
  rw [exec_commit, State.commandCell_of_takes ht, State.takeCommit_judged (by simpa using ha) (by simpa using hh)]

theorem State.judgeCommit_of_broken {s : State} {l : Link} {c : CellIx} (h : (s.entry l).reservation = .broken c) (tag : Tag)
    (v : Quad) (deferred : Bool) (resume : Option CellIx) :
    s.judgeCommit l tag c v deferred resume = s.commitConflicts l tag c deferred := by
  simp [State.judgeCommit, h]

/-- A CONFLICT on an entry that owns no hold changes the entry, the count of conflicts and the link that gets the reply, and nothing
else (R29). -/
theorem State.commitConflicts_of_not_held {s : State} {l : Link} (h : ∀ k w, (s.entry l).reservation ≠ .held k w) (tag : Tag)
    (c : CellIx) (deferred : Bool) :
    let failures := saturate Config.failureMax (s.entry l).failures
    s.commitConflicts l tag c deferred =
      { s.withReply l ⟨0x99, tag, .conflict, le 4 (s.cell c).version ++ [countByte failures, flagByte deferred]⟩ with
        entries := setAt s.entries l ⟨.none, failures⟩
        counters := { s.counters with conflicts := s.counters.conflicts + 1 } } := by
  simp only [State.commitConflicts, State.consumeEntry_of_not_held h, State.setEntry_entry_same, State.setEntry_setEntry,
    State.answer_eq_withReply]
  rfl

/-! ## RELEASE (R21, R32) -/

theorem exec_release (l : Link) (tag : Tag) (s : State) :
    exec (.release l tag) s = s.commandInOrder l tag .release fun t => t.takeRelease l tag := rfl

/-- A RELEASE loses the session's entry, as `State.consumeEntry_lost` says it, and answers OK with what the entry was. -/
theorem State.takeRelease_eq (s : State) (l : Link) (tag : Tag) :
    s.takeRelease l tag =
      { s.withReply l ⟨0x9A, tag, .ok, [reservationByte (s.entry l).reservation] ++ le 2 (reservationCell (s.entry l).reservation) ++
          [countByte (s.entry l).failures]⟩ with
        entries := setAt s.entries l ⟨.none, (s.entry l).failures⟩
        holds := (s.consumeEntry l).holds
        drains := (s.consumeEntry l).drains } := by
  conv_lhs => rw [State.takeRelease, State.answer_eq_withReply, (s.consumeEntry_lost l).rest]
  rfl

end Sys2Proof.Machine

namespace Sys2Proof.Proofs

open Sys2Proof.Machine

/-- Settles O34: judged directly or by a drain, the COMMIT finds a BROKEN entry, which owns no hold, and takes the CONFLICT branch; the
direct COMMIT comes to that judgement because its two checks pass. -/
theorem brokenCommitConflicts : Obligations.BrokenCommitConflicts := by
  refine ⟨fun s l tag c v deferred resume hb => ?_, fun s l tag c v ht ha hh _ => exec_commit_judged ht ha hh⟩
  have hnot : ∀ k w, (s.entry l).reservation ≠ .held k w := by simp [hb]
  rw [State.judgeCommit_of_broken hb]
  exact State.commitConflicts_of_not_held hnot tag c deferred

/-- Settles O35: the RELEASE loses the entry of the state in which it was taken from its line, and that state has the session's entry,
the holds and the drains that stood before. -/
theorem releaseEndsTheReservation : Obligations.ReleaseEndsTheReservation := by
  intro s l tag ht
  have hlost := (s.orderTaken l).consumeEntry_lost l
  refine ⟨(s.orderTaken l).takeRelease l tag, ?_, fun hnot => ?_, fun c v hheld hstands => ?_, ?_⟩
  · rw [exec_release, State.commandInOrder_of_takes ht]
  · obtain ⟨hrecords, hdrains⟩ := hlost.notHeld hnot
    exact ⟨hrecords, hdrains⟩
  · obtain ⟨hrecord, hdrain⟩ := hlost.held c v hheld hstands
    exact ⟨hrecord, hdrain⟩
  · exact State.takeRelease_eq (s.orderTaken l) l tag

end Sys2Proof.Proofs
end

section
/-! PROOF. The administrative role and hub control: YIELD_ADMIN passes the role (R140) with its reports (R141), or takes the fault of its first
failing check. -/

namespace Sys2Proof.Machine

/-! ## Link fields -/

@[simp] theorem linkOf_ofNat (k : Link) : linkOf (BitVec.ofNat 8 k.val) = some k := by
  have := k.isLt
  simp [linkOf, Nat.mod_eq_of_lt (show k.val < 256 by omega)]

theorem linkOf_of_large {target : Byte} (h : 7 < target.toNat) : linkOf target = none := by
  unfold linkOf; simp; omega

/-- A link's number is never the field that names no target. -/
theorem linkField_ne_noTarget (k : Link) : BitVec.ofNat 8 k.val ≠ (0xFF : Byte) := by
  have := k.isLt
  intro h
  have := congrArg BitVec.toNat h
  simp at this
  omega

theorem exists_linkField_of_small {target : Byte} (h : target.toNat ≤ 7) : ∃ k : Link, target = BitVec.ofNat 8 k.val :=
  ⟨⟨target.toNat, by omega⟩, by simp⟩

/-! ## What taking an arrival leaves, and whose it is (R104) -/

@[simp] theorem State.arrivalTaken_admin (s : State) (l : Link) : (s.arrivalTaken l).admin = s.admin := rfl

@[simp] theorem State.arrivalTaken_attached (s : State) (l k : Link) : (s.arrivalTaken l).attached k = s.attached k := rfl

@[simp] theorem State.arrivalTaken_eligible (s : State) (l k : Link) : (s.arrivalTaken l).eligible k = s.eligible k := rfl

@[simp] theorem State.arrivalTaken_candidate (s : State) (l k : Link) : (s.arrivalTaken l).candidate k = s.candidate k := rfl

/-- Only an ATTACHED session's request is left at arrival, but for OPEN, which finds no session, and PING, which a CLOSING one may send. -/
theorem State.attached_of_stays {s : State} {l : Link} {r : Request} (hopen : isOpen r = false) (hping : isPing r = false)
    (h : s.verdict l r = .stay) : s.attached l = true := by
  unfold State.verdict at h
  unfold State.attached
  cases hx : s.session l with
  | none => simp [hx, hopen] at h
  | some x =>
    cases hp : x.phase with
    | closing => simp [hx, hp, hping] at h
    | attached => simp [hp]

/-! ## The candidate of an election (R138) -/

theorem State.candidate_eq_some {s : State} {l k : Link} (hne : k ≠ l) (he : s.eligible k = true)
    (hlow : ∀ j, j < k → j ≠ l → s.eligible j = false) : s.candidate l = some k := by
  cases hc : s.candidate l with
  | none => simp [State.candidate_none hc k hne] at he
  | some j =>
    obtain ⟨hjl, hje, hjlow⟩ := State.candidate_some hc
    rcases lt_trichotomy j k with hlt | rfl | hlt
    · simp [hlow j hlt hjl] at hje
    · rfl
    · simp [hjlow k hlt hne] at he

theorem State.candidate_eq_none {s : State} {l : Link} (h : ∀ k, k ≠ l → s.eligible k = false) : s.candidate l = none := by
  cases hc : s.candidate l with
  | none => rfl
  | some k =>
    obtain ⟨hne, he, -⟩ := State.candidate_some hc
    simp [h k hne] at he

/-! ## The role passes (R141) -/

/-- The state in which the role has passed from the session on `l` to the one on `k`: both links have a ROLE report pending, and a pending INTEGRITY
report is the gaining link's alone. -/
def State.rolePassed (s : State) (l k : Link) : State :=
  { s with
    admin := some k
    links := setAt (setAt s.links l { s.link l with reports := { (s.link l).reports with role := true, integrity := false } }) k
      { s.link k with reports := { (s.link k).reports with
        role := true, integrity := (s.link k).reports.integrity || decide (0 < s.unreported) } } }

/-- The change of the admin link from an ATTACHED session's to another passes the role, and does nothing else. -/
theorem State.changeAdmin_of_passes {s : State} {l k : Link} (hadmin : s.admin = some l) (hatt : s.attached l = true) (hne : k ≠ l) :
    s.changeAdmin (some k) = s.rolePassed l k := by
  have hlk : ¬ l = k := fun h => hne h.symm
  by_cases hu : 0 < s.unreported <;>
    simp [State.changeAdmin, State.rolePassed, hadmin, hlk, hatt, hu, State.pendRole, State.pendIntegrity, State.withdrawIntegrity, State.updReports,
      State.updLink, State.link, getAt_setAt_ne _ hne]

/-! ## YIELD_ADMIN by the form of its target (R140) -/

theorem exec_yieldAdmin_of_takes {s : State} {l : Link} {tag : Tag} {target : Byte} (h : s.takesArrived l tag (.yieldAdmin target)) :
    exec (.yieldAdmin l tag target) s = .next (((s.arrivalTaken l).takeYield l tag target).route l) :=
  State.commandAtArrival_of_takes h _

theorem State.answerYield_of_admin {s : State} {k : Link} (h : s.admin = some k) (l : Link) (tag : Tag) :
    s.answerYield l tag = s.withReply l ⟨0xB3, tag, .ok, [BitVec.ofNat 8 k.val]⟩ := by
  rw [State.answerYield, State.answer_eq_withReply, h]; rfl

/-- A target above 7 that is not 0xFF names no link. -/
theorem State.takeYield_of_large {target : Byte} (h : 7 < target.toNat) (hff : target ≠ 0xFF) (s : State) (l : Link) (tag : Tag) :
    s.takeYield l tag target = s.raise ⟨l, tag, 0x33, [0]⟩ ⟨.linkIndex, target.setWidth 16, 0⟩ none := by
  rw [State.takeYield, if_neg hff, linkOf_of_large h]

/-- With a target, the checks and the effect of R140. -/
theorem State.takeYield_link (s : State) (l : Link) (tag : Tag) (k : Link) :
    s.takeYield l tag (BitVec.ofNat 8 k.val) =
      if s.admin ≠ some l then s.raise ⟨l, tag, 0x33, [0]⟩ ⟨.notAdmin, 0, 0⟩ none
      else if k = l then s.answerYield l tag
      else if s.eligible k then (s.changeAdmin (some k)).answerYield l tag
      else s.raise ⟨l, tag, 0x33, [0]⟩ ⟨.adminTarget, (BitVec.ofNat 8 k.val).setWidth 16, 0⟩ none := by
  rw [State.takeYield, if_neg (linkField_ne_noTarget k), linkOf_ofNat]; rfl

/-- Without a target the role goes to the candidate of the election that excludes the yielding session (R138). -/
theorem State.takeYield_noTarget (s : State) (l : Link) (tag : Tag) :
    s.takeYield l tag 0xFF =
      if s.admin ≠ some l then s.raise ⟨l, tag, 0x33, [0]⟩ ⟨.notAdmin, 0, 0⟩ none
      else
        match s.candidate l with
        | none => s.raise ⟨l, tag, 0x33, [0]⟩ ⟨.adminAlone, 0, 0⟩ none
        | some k => (s.changeAdmin (some k)).answerYield l tag := by
  by_cases hadmin : s.admin = some l
  · cases hc : s.candidate l <;> simp [State.takeYield, State.vacateAdmin, hadmin, hc]
  · simp [State.takeYield, hadmin, hubAdminFault]

/-- Whatever the target, a session that is not admin takes NOT_ADMIN once the target is in range. -/
theorem State.takeYield_of_notAdmin {s : State} {l : Link} {target : Byte} (ht : target.toNat ≤ 7 ∨ target = 0xFF)
    (h : s.admin ≠ some l) (tag : Tag) : s.takeYield l tag target = s.raise ⟨l, tag, 0x33, [0]⟩ ⟨.notAdmin, 0, 0⟩ none := by
  rcases ht with ht | rfl
  · obtain ⟨k, rfl⟩ := exists_linkField_of_small ht
    rw [State.takeYield_link, if_pos h]
  · rw [State.takeYield_noTarget, if_pos h]

/-- A YIELD_ADMIN that passes the role on is answered with the gaining link. -/
theorem State.changeAdmin_answerYield {s : State} {l k : Link} (hadmin : s.admin = some l) (hatt : s.attached l = true) (hne : k ≠ l)
    (tag : Tag) :
    (s.changeAdmin (some k)).answerYield l tag = (s.rolePassed l k).withReply l ⟨0xB3, tag, .ok, [BitVec.ofNat 8 k.val]⟩ := by
  rw [State.changeAdmin_of_passes hadmin hatt hne]
  exact State.answerYield_of_admin rfl l tag

end Sys2Proof.Machine

namespace Sys2Proof.Proofs

open Sys2Proof.Machine

/-- Settles O49: the request is taken at arrival, so its session is ATTACHED; the form of the target and the role then select the branch of R140,
and a candidate that is the lowest-numbered eligible other session is the one the election finds. -/
theorem yieldAdminPassesTheRole : Obligations.YieldAdminPassesTheRole := by
  refine ⟨fun s l tag target ht hadmin => ?_, fun s l tag target ht => ?_⟩
  · have ⟨_, _, _, hstays⟩ := ht
    have hatt : s.attached l = true := State.attached_of_stays rfl rfl hstays
    have hadm : (s.arrivalTaken l).admin = some l := hadmin
    have hpass (k : Link) (hne : k ≠ l) := State.changeAdmin_answerYield hadm (by simpa using hatt) hne tag
    rw [exec_yieldAdmin_of_takes ht]
    refine ⟨?ownLink, ?toTarget, ?toCandidate⟩
    case ownLink =>
      rintro rfl
      rw [State.takeYield_link, if_neg (not_not.mpr hadm), if_pos rfl, State.answerYield_of_admin hadm]
    case toTarget =>
      rintro k hne rfl he
      rw [State.takeYield_link, if_neg (not_not.mpr hadm), if_neg hne, if_pos (by simpa using he), hpass k hne]
      rfl
    case toCandidate =>
      rintro k rfl hne he hlow
      rw [State.takeYield_noTarget, if_neg (not_not.mpr hadm), State.arrivalTaken_candidate, State.candidate_eq_some hne he hlow]
      dsimp only
      rw [hpass k hne]
      rfl
  · rw [exec_yieldAdmin_of_takes ht]
    refine ⟨?badLink, ?notAdmin, ?badTarget, ?alone⟩
    case badLink =>
      intro hlarge hff
      rw [State.takeYield_of_large hlarge hff]
    case notAdmin =>
      intro hrange hnot
      rw [State.takeYield_of_notAdmin hrange (by simpa using hnot)]
    case badTarget =>
      rintro k rfl hadmin hne he
      rw [State.takeYield_link, if_neg (by simpa using hadmin), if_neg hne, if_neg (by simp [he])]
    case alone =>
      rintro rfl hadmin hnone
      rw [State.takeYield_noTarget, if_neg (by simpa using hadmin), State.arrivalTaken_candidate, State.candidate_eq_none hnone]

end Sys2Proof.Proofs
end

section
/-! PROOF. The moves of an event: what each part of an event does to the state, said once. Every command, and the passing of time, is a run of moves, and every
invariant is shown of each move. -/

-- Theorems are elaborated one after another, as in the tests: each thread reserves its own memory, and the check bounds the sum.
set_option Elab.async false

namespace Sys2Proof.Machine

/-! ## One link unit replaced -/

@[simp] theorem State.withLink_link_same (s : State) (l : Link) (u : LinkUnit) : (s.withLink l u).link l = u := getAt_setAt_same ..

theorem State.withLink_link_ne (s : State) {l k : Link} (h : k ≠ l) (u : LinkUnit) : (s.withLink l u).link k = s.link k := getAt_setAt_ne _ h _

theorem State.withLink_link (s : State) (l k : Link) (u : LinkUnit) : (s.withLink l u).link k = if k = l then u else s.link k := getAt_setAt ..

@[simp] theorem State.withLink_withLink (s : State) (l : Link) (u v : LinkUnit) : (s.withLink l u).withLink l v = s.withLink l v := by
  simp [State.withLink]

theorem State.updLink_eq_withLink (s : State) (l : Link) (f : LinkUnit → LinkUnit) : s.updLink l f = s.withLink l (f (s.link l)) := rfl

theorem State.countError_eq_withLink (s : State) (l : Link) (k : CounterName) : s.countError l k = s.withLink l ((s.link l).noted k) := rfl

/-! ## What an event has in hand -/

/-- A request that an event has taken and neither answered nor put anywhere yet; `session` when its link is known to have a session. -/
structure Taken where
  link : Link
  tag : Tag
  session : Bool

/-- What an event has in hand between two of its moves: a request, and the cell whose drain goes on. -/
structure Work where
  request : Option Taken := none
  drain : Option CellIx := none

/-- Nothing is in hand. -/
abbrev Work.idle : Work := ⟨none, none⟩

/-! ## Changes of one unit and of one record -/

/-- The part of a link unit that its tags do not touch is well formed (R151, R158, R160). -/
def UnitWf (u : LinkUnit) : Prop :=
  ReceiverWf u.receiver ∧ u.reports.arrivals.Pairwise (fun a b => a < b) ∧
    u.counters.noise ≤ 255 ∧ u.counters.lengthErrors ≤ 255 ∧ u.counters.crcErrors ≤ 255 ∧
    u.counters.partialTimeouts ≤ 255 ∧ u.counters.overruns ≤ 255 ∧ u.counters.duplicateTags ≤ 255 ∧
    (u.counters ≠ {} → u.reports.linkEntry ≠ none)

/-- A link unit whose requests and INTEGRITY entry stay as they were. -/
structure UnitKept (u v : LinkUnit) : Prop where
  tags : v.tags = u.tags
  heldFrames : v.heldFrames = u.heldFrames
  inbox : v.inbox = u.inbox
  replies : v.replies.length ≤ u.replies.length
  integrity : v.reports.integrity = u.reports.integrity
  wf : UnitWf u → UnitWf v

/-- A fault record that a session may come to have: FORM's policy stays, and a new designation names a queue that is not ABSENT. -/
structure RecordKept (s : State) (r r' : FaultRecord) : Prop where
  form : getAt r.policies (classIndex .form) = .refuse → getAt r'.policies (classIndex .form) = .refuse
  designation : ∀ q, r'.designation = some q → r.designation = some q ∨ (s.queue q).isSome = true

/-- The entry of the session on `l` after a RESERVE of `c` that passes its checks, with the hold that it may have earned (R23, R24). -/
def State.armed (s : State) (l : Link) (c : CellIx) : State :=
  let x := s.cell c
  let s := s.consumeEntry l
  let s := s.setEntry l { s.entry l with reservation := .armed c x.version }
  if s.earnsHold l c then (s.setEntry l ⟨.held c x.version, 0⟩).grantHold l c else s

/-- The session on a link is gone: its deferred requests and waiting takes go, its queues are UNBOUND, and an election fills its role (R115). -/
def State.detach (s : State) (l : Link) : State :=
  State.vacateAdmin
    { s with
      dwq := s.dwq.filter fun e => decide (e.link ≠ l)
      queues := s.queues.map fun e : QueueIx × Queue => (e.1, e.2.unbindFrom l)
      sessions := setAt s.sessions l none } l

/-- The link unit's requests, replies and reports are gone, but for the SESSION_ENDED and the link entry that it now has. -/
def State.emptyLink (s : State) (l : Link) (k : LinkCounters) (ended : Option SessionEnded) (entry : Option LinkEntry) : State :=
  (s.clearLink l).updLink l fun u => { u with counters := k, reports := { sessionEnded := ended, linkEntry := entry } }

/-! ## The moves -/

/-- One move of an event, with what it has in hand before and after. `host` says whether the event can be a host's doing: a frame that arrives, a request that
is taken, a choice of what to send. -/
inductive Move (host : Prop) : Work → State → Work → State → Prop where
  | tally {w s} (m cp qp sc hs k f) (hk : HubCounters.highWater k = s.counters.highWater) :
    Move host w s w { s with
      modifications := m, cellPointer := cp, queuePointer := qp, scrubbing := sc, hubState := hs, counters := k, freeSeed := f }
  | unit {w s} (l : Link) (u : LinkUnit) (hu : UnitKept (s.link l) u) (hr : host ∨ u.receiver = (s.link l).receiver) :
    Move host w s w (s.withLink l u)
  | accept {d s} (hh : host) (l : Link) (tag : Tag) (hfree : (s.link l).tags.length + (s.link l).replies.length < 4)
    (hnew : tag ∉ (s.link l).tags) :
    Move host ⟨none, d⟩ s ⟨some ⟨l, tag, (s.session l).isSome⟩, d⟩ (s.withLink l { s.link l with tags := (s.link l).tags ++ [tag] })
  | holdFrame {d s} (hh : host) (l : Link) (f : RawFrame) (b : Bool) :
    Move host ⟨some ⟨l, f.tag, b⟩, d⟩ s ⟨none, d⟩ (s.withLink l { s.link l with heldFrames := (s.link l).heldFrames ++ [f] })
  | intoInbox {d s} (hh : host) (l : Link) (x : Waiting) (b : Bool) :
    Move host ⟨some ⟨l, x.tag, b⟩, d⟩ s ⟨none, d⟩ (s.withLink l { s.link l with inbox := (s.link l).inbox ++ [x] })
  | fromInbox {d s} (hh : host) (l : Link) (x : Waiting) (rest : List Waiting) (h : (s.link l).inbox = x :: rest) :
    Move host ⟨none, d⟩ s ⟨some ⟨l, x.tag, (s.session l).isSome⟩, d⟩ (s.withLink l { s.link l with inbox := rest })
  | intoCellLine {d s} (hh : host) (l : Link) (x : Waiting) :
    Move host ⟨some ⟨l, x.tag, true⟩, d⟩ s ⟨none, d⟩ (s.setCellLine l (s.cellLine l ++ [x]))
  | fromCellLine {d s} (hh : host) (l : Link) (x : Waiting) (rest : List Waiting) (h : s.cellLine l = x :: rest) :
    Move host ⟨none, d⟩ s ⟨some ⟨l, x.tag, true⟩, d⟩ (s.setCellLine l rest)
  | intoQueueLine {d s} (hh : host) (l : Link) (x : Waiting) :
    Move host ⟨some ⟨l, x.tag, true⟩, d⟩ s ⟨none, d⟩ (s.setQueueLine l (s.queueLine l ++ [x]))
  | fromQueueLine {d s} (hh : host) (l : Link) (x : Waiting) (rest : List Waiting) (h : s.queueLine l = x :: rest) :
    Move host ⟨none, d⟩ s ⟨some ⟨l, x.tag, true⟩, d⟩ (s.setQueueLine l rest)
  | answer {d s} (l : Link) (r : Reply) (b : Bool) : Move host ⟨some ⟨l, r.tag, b⟩, d⟩ s ⟨none, d⟩ (s.placeReply l r)
  | record {w s} (l : Link) (r : FaultRecord) (hr : RecordKept s (s.faultRecord l) r) : Move host w s w (s.setFaultRecord l r)
  | cell {w s} (hh : host) (c : CellIx) (x : Cell) (hx : x.version = (s.cell c).version) : Move host w s w (s.setCell c x)
  | detect {w s} (c : CellIx) : Move host w s w (s.detect c)
  | consume {w s} (l : Link) : Move host w s w (s.consumeEntry l)
  | failures {w s} (l : Link) (n : Nat) (hn : n ≤ 15 ∨ n ≤ (s.entry l).failures) (he : (s.entry l).reservation = .none) :
    Move host w s w (s.setEntry l ⟨.none, n⟩)
  | freshEntry {w s} (hh : host) (l : Link) (hx : s.session l = none) : Move host w s w (s.setEntry l {})
  | arm {tag d s} (hh : host) (l : Link) (c : CellIx) (hd : s.drains = []) :
    Move host ⟨some ⟨l, tag, true⟩, d⟩ s ⟨some ⟨l, tag, true⟩, d⟩ (s.armed l c)
  | modify {w s} (c : CellIx) (v : Quad) (l : Link) : Move host w s w (s.modify c v l none)
  | commit {w s} (c : CellIx) (v : Quad) (l : Link) : Move host w s w ((s.modify c v l (some l)).consumeEntry l)
  | expire {w s} (h : HoldRecord) : Move host w s w (s.expireHold h)
  | defer {d s} (hh : host) (e : DwqEntry) (k : Link) (hroom : s.dwq.length < 32) (hheld : s.holderOf e.cell = some k) :
    Move host ⟨some ⟨e.link, e.tag, true⟩, d⟩ s ⟨none, d⟩ (s.deferRequest e)
  | post {s} (p : ForwardPost) (hp : s.forwardPosts = []) (hd : s.draining = none) :
    Move host ⟨some ⟨p.link, p.tag, true⟩, p.resume⟩ s .idle { s with forwardPosts := s.forwardPosts ++ [p] }
  | unpost {s} (p : ForwardPost) (rest : List ForwardPost) (hp : s.forwardPosts = p :: rest) :
    Move host .idle s ⟨some ⟨p.link, p.tag, true⟩, p.resume⟩ { s with forwardPosts := rest }
  | carried {w s} (hh : host) : Move host w s w { s with forwardPosts := s.forwardPosts.map fun p => { p with carrying := none } }
  | startDrain {s} (c : CellIx) (rest : List CellIx) (hc : s.drains = c :: rest) (hp : s.forwardPosts = []) (hd : s.draining = none) :
    Move host .idle s ⟨none, some c⟩ { s with drains := rest, holds := s.holds.filter fun h => !(decide (h.cell = c) && !h.stands) }
  | resume {s} (c : CellIx) (hp : s.forwardPosts = []) (hd : s.draining = some c) :
    Move host .idle s ⟨none, some c⟩ { s with draining := none }
  | undefer {s} (c : CellIx) (e : DwqEntry) (he : s.dwq.find? (fun e => decide (e.cell = c)) = some e) :
    Move host ⟨none, some c⟩ s ⟨some ⟨e.link, e.tag, true⟩, some c⟩ { s with dwq := s.dwq.eraseP fun e => decide (e.cell = c) }
  | endDrain {s} (c : CellIx) (he : ∀ e ∈ s.dwq, e.cell ≠ c) : Move host ⟨none, some c⟩ s .idle s
  | pause {s} (c : CellIx) : Move host ⟨none, some c⟩ s .idle { s with draining := some c }
  | watches {w s} (ws : List Watch) (hw : WatchesWf s → WatchesWf { s with watches := ws }) : Move host w s w { s with watches := ws }
  | setQueue {w s} (q : QueueIx) (d : Queue) (ht : (s.queue q).bind Queue.waitingTake = d.waitingTake)
    (hd : QueuesWf s → QueuesWf (s.setQueue q d)) : Move host w s w (s.setQueue q d)
  | endTake {w s} (q : QueueIx) (d : Queue) (x : WaitingTake) (r : Reply) (hq : s.queue q = some d) (ht : d.waitingTake = some x)
    (hr : r.tag = x.tag) : Move host w s w ((s.setQueue q { d with waitingTake := none }).placeReply x.link r)
  | startTake {w s} (hh : host) (q : QueueIx) (d : Queue) (x : WaitingTake) (hq : s.queue q = some d) (ht : d.waitingTake = none)
    (ho : d.owner = some x.link) (hm : d.messages = []) :
    Move host ⟨some ⟨x.link, x.tag, true⟩, w⟩ s ⟨none, w⟩ (s.setQueue q { d with waitingTake := some x })
  | removeQueue {w s} (hh : host) (q : QueueIx) (ht : (s.queue q).bind Queue.waitingTake = none) :
    Move host w s w { s.removeQueue q with faults := mapLinks (clearDesignation q) s.faults }
  | renew {w s} (hh : host) (l : Link) : Move host w s w (s.renewLease l)
  | attach {w s} (hh : host) (l : Link) (x : Session) (hs : s.session l = none) (hid : x.hostId ≠ 0)
    (hnew : s.identityHolder l x.hostId = none) (hper : x.deadline = none ↔ x.period = 0) (hph : x.phase = .attached) :
    Move host w s w
      (if x.eligible = true ∧ s.admin = none then (s.setSession l (some x)).changeAdmin (some l) else s.setSession l (some x))
  | closing {d s} (hh : host) (l : Link) (x : Session) (tag : Tag) (b : Bool) (hs : s.session l = some x) :
    Move host ⟨some ⟨l, tag, b⟩, d⟩ s ⟨none, d⟩ ((s.setSession l (some { x with phase := .closing })).vacateAdmin l)
  | changeAdmin {w s} (hh : host) (k : Link) (hk : s.eligible k = true) : Move host w s w (s.changeAdmin (some k))
  | detachClean {s} (l : Link) (tag : Tag) (x : Session) (hs : s.session l = some x) (hp : x.phase = .closing)
    (ht : (s.link l).tags = [tag]) (he : (s.entry l).reservation = .none) : Move host .idle s ⟨some ⟨l, tag, false⟩, none⟩ (s.detach l)
  | detachAbrupt {s} (l : Link) (k : LinkCounters) (ended : Option SessionEnded) (entry : Option LinkEntry) (hp : s.forwardPosts = [])
    (hd : s.draining = none) (he : (s.entry l).reservation = .none) (hk : k = {} ∨ k = (s.link l).counters) (hn : k ≠ {} → entry ≠ none) :
    Move host .idle s .idle ((s.detach l).emptyLink l k ended entry)
  | emptyLink {s} (hh : host) (l : Link) (k : LinkCounters) (ended : Option SessionEnded) (entry : Option LinkEntry) (hx : s.session l = none)
    (hk : k = {} ∨ k = (s.link l).counters) (hn : k ≠ {} → entry ≠ none) : Move host .idle s .idle (s.emptyLink l k ended entry)
  | withdraw {w s} (l : Link) (p : QueueIx → Bool) (ha : s.admin ≠ some l) :
    Move host w s w (s.updReports l fun r => { r with role := false, integrity := false, arrivals := r.arrivals.filter p })
  | config {w s} (hh : host) (c : Configuration) (ht : c.threshold ≤ 15) (h1 : 1 ≤ c.limit) (h2 : c.limit ≤ 255) :
    Move host w s w { s with config := c }
  | request {w s} (hh : host) (r : ResetRequest) : Move host w s w { s with resetRequest := some r }
  | sendIntegrity {w s} (hh : host) (l : Link) (h : (s.link l).reports.integrity = true) :
    Move host w s w { s.withdrawIntegrity l with unreported := 0 }
  | beginReset {s} (hh : host) (scope : Scope) : Move host .idle s .idle (s.beginReset scope)

/-- A run of moves. -/
inductive Moves (host : Prop) : Work → State → Work → State → Prop where
  | refl {w s} : Moves host w s w s
  | head {w s w' u w'' t} : Move host w s w' u → Moves host w' u w'' t → Moves host w s w'' t

variable {host : Prop} {w w' w'' : Work} {s t u : State}

theorem Move.moves (h : Move host w s w' t) : Moves host w s w' t := .head h .refl

/-- A change of HUB's counters that leaves the high-water mark. -/
theorem Move.counters (k : HubCounters) (hk : k.highWater = s.counters.highWater) : Move host w s w { s with counters := k } :=
  .tally _ _ _ _ _ k _ hk

theorem Moves.trans (h : Moves host w s w' u) (h' : Moves host w' u w'' t) : Moves host w s w'' t := by
  induction h with
  | refl => exact h'
  | head m _ ih => exact .head m (ih h')

theorem Moves.then (h : Moves host w s w' u) (m : Move host w' u w'' t) : Moves host w s w'' t := h.trans m.moves

/-- What every move keeps, a run of moves keeps. -/
theorem Moves.keeps {P : Work → State → Prop} (hP : ∀ {w s w' t}, Move host w s w' t → P w s → P w' t)
    (h : Moves host w s w' t) (hs : P w s) : P w' t := by
  induction h with
  | refl => exact hs
  | head m _ ih => exact ih (hP m hs)

/-- The request in hand is answered. -/
theorem Moves.answer {l : Link} {tag : Tag} {b : Bool} {d : Option CellIx} {kind : Byte} {status : Status} {fields : List Byte}
    (h : Moves host w s ⟨some ⟨l, tag, b⟩, d⟩ u) : Moves host w s ⟨none, d⟩ (u.answer l tag kind status fields) :=
  h.then (.answer l ⟨replyKind kind, tag, status, fields⟩ b)

end Sys2Proof.Machine
end

section
/-! PROOF. The operations of the fault unit, the cell store and the drains as runs of moves. -/

set_option Elab.async false

namespace Sys2Proof.Machine

variable {host : Prop} {w : Work} {s : State} {d : Option CellIx}

/-! ## Tables of queues -/

theorem sum_putAt_of_none {α : Type} {n : Nat} (f : α → Nat) {t : List (Fin n × α)} {i : Fin n} (x : α) (h : findAt t i = none) :
    ((putAt t i x).map fun e => f e.2).sum = (t.map fun e => f e.2).sum + f x := by
  induction t with
  | nil => simp [putAt]
  | cons e t ih =>
    obtain ⟨k, y⟩ := e
    have hk : k ≠ i := by rintro rfl; simp [findAt] at h
    have ht : findAt t i = none := by simpa [findAt, hk] using h
    simp only [putAt, hk, if_false]
    split
    · simp; omega
    · simp [ih ht]; omega

theorem findAt_of_lt {α : Type} {n : Nat} {t : List (Fin n × α)} {i : Fin n} (h : ∀ e ∈ t, i < e.1) : findAt t i = none := by
  induction t with
  | nil => rfl
  | cons e t ih =>
    obtain ⟨k, y⟩ := e
    have hk : k ≠ i := ne_of_gt (h (k, y) List.mem_cons_self)
    simp [findAt, hk, ih fun e he => h e (List.mem_cons_of_mem _ he)]

theorem sum_putAt_of_some {α : Type} {n : Nat} (f : α → Nat) {t : List (Fin n × α)} {i : Fin n} {y : α} (x : α) (hr : Rising t)
    (h : findAt t i = some y) : ((putAt t i x).map fun e => f e.2).sum + f y = (t.map fun e => f e.2).sum + f x := by
  induction t with
  | nil => simp [findAt] at h
  | cons e t ih =>
    obtain ⟨k, z⟩ := e
    obtain ⟨hk, ht⟩ := List.pairwise_cons.mp hr
    by_cases hki : k = i
    · subst hki
      have : z = y := by simpa [findAt] using h
      subst this
      simp [putAt]; omega
    · have hf : findAt t i = some y := by simpa [findAt, hki] using h
      have hlt : ¬ i < k := fun hlt => by
        rw [findAt_of_lt fun e he => lt_trans hlt (hk e he)] at hf; cases hf
      simp only [putAt, hlt, hki, if_false, List.map_cons, List.sum_cons]
      have := ih ht hf
      omega

theorem State.setQueue_slotsUsed_of_none {q : QueueIx} (e : Queue) (hq : s.queue q = none) :
    (s.setQueue q e).slotsUsed = s.slotsUsed + e.messages.length :=
  sum_putAt_of_none (fun d : Queue => d.messages.length) e hq

theorem State.setQueue_slotsUsed_of_some {q : QueueIx} {d : Queue} (e : Queue) (hr : Rising s.queues) (hq : s.queue q = some d) :
    (s.setQueue q e).slotsUsed + d.messages.length = s.slotsUsed + e.messages.length :=
  sum_putAt_of_some (fun d : Queue => d.messages.length) e hr hq

/-- Writing a well-formed descriptor that holds no more than before, or one message more while a slot is free, keeps the queues well formed. -/
theorem QueuesWf.setQueue {q : QueueIx} {e : Queue} (h : QueuesWf s) (he : QueueWf e)
    (hm : e.messages.length ≤ ((s.queue q).map fun d => d.messages.length).getD 0 ∨
      e.messages.length = ((s.queue q).map fun d => d.messages.length).getD 0 + 1 ∧ s.slotsUsed < 256) : QueuesWf (s.setQueue q e) := by
  obtain ⟨hrise, hwf, hpool⟩ := h
  refine ⟨putAt_rising hrise q e, fun x hx => ?_, ?_⟩
  · rcases mem_putAt hx with rfl | hx
    · exact he
    · exact hwf x hx
  · cases hq : s.queue q with
    | none =>
      rw [State.setQueue_slotsUsed_of_none e hq]
      simp only [hq, Option.map_none, Option.getD_none] at hm
      omega
    | some d =>
      have := State.setQueue_slotsUsed_of_some e hrise hq
      simp only [hq, Option.map_some, Option.getD_some] at hm
      omega

theorem QueuesWf.queue {q : QueueIx} {e : Queue} (h : QueuesWf s) (hq : s.queue q = some e) : QueueWf e :=
  h.2.1 (q, e) (findAt_mem hq)

/-! ## Replies and faults -/

theorem State.answer_moves (s : State) (l : Link) (tag : Tag) (b : Bool) (kind : Byte) (status : Status) (fields : List Byte) :
    Moves host ⟨some ⟨l, tag, b⟩, d⟩ s ⟨none, d⟩ (s.answer l tag kind status fields) :=
  (Move.answer l ⟨replyKind kind, tag, status, fields⟩ b).moves

theorem State.markOccurred_moves (s : State) (l : Link) (c : FaultClass) : Moves host w s w (s.markOccurred l c) :=
  (Move.record l { s.faultRecord l with occurred := setAt (s.faultRecord l).occurred (classIndex c) true } ⟨id, fun _ => .inl⟩).moves

theorem State.markLost_moves (s : State) (l : Link) : Moves host w s w (s.markLost l) :=
  (Move.record l { s.faultRecord l with lost := true } ⟨id, fun _ => .inl⟩).moves

theorem State.finishForward_moves (s : State) (o : Faulting) (b placed : Bool) :
    Moves host ⟨some ⟨o.link, o.tag, b⟩, d⟩ s ⟨none, d⟩ (s.finishForward o placed) := by
  cases placed with
  | true => exact s.answer_moves ..
  | false => exact (s.markLost_moves o.link).trans (State.answer_moves ..)

/-! ## Placing a message -/

theorem saturate_le {max n : Nat} (h : n ≤ max) : saturate max n ≤ max := by
  unfold saturate; split <;> omega

theorem saturate_le_or (max n : Nat) : saturate max n ≤ max ∨ saturate max n ≤ n := by
  unfold saturate; split <;> omega

theorem UnitKept.of_arrivals {u : LinkUnit} (as : List QueueIx)
    (h : u.reports.arrivals.Pairwise (fun a b => a < b) → as.Pairwise (fun a b => a < b)) :
    UnitKept u { u with reports := { u.reports with arrivals := as } } :=
  ⟨rfl, rfl, rfl, le_rfl, rfl, fun ⟨hr, ha, hc⟩ => ⟨hr, h ha, hc⟩⟩

theorem mem_insertIx {n : Nat} {i k : Fin n} {t : List (Fin n)} (h : k ∈ insertIx i t) : k = i ∨ k ∈ t := by
  induction t with
  | nil => simpa [insertIx] using h
  | cons j t ih =>
    simp only [insertIx] at h
    split at h
    · simpa using h
    · split at h
      · exact .inr h
      · rcases List.mem_cons.mp h with rfl | h
        · exact .inr List.mem_cons_self
        · exact (ih h).imp id (List.mem_cons_of_mem _)

theorem insertIx_rising {n : Nat} (i : Fin n) {t : List (Fin n)} (h : t.Pairwise (fun a b => a < b)) :
    (insertIx i t).Pairwise (fun a b => a < b) := by
  induction t with
  | nil => simp [insertIx]
  | cons j t ih =>
    obtain ⟨hj, ht⟩ := List.pairwise_cons.mp h
    simp only [insertIx]
    split
    · next hlt =>
      refine List.pairwise_cons.mpr ⟨fun k hk => ?_, h⟩
      rcases List.mem_cons.mp hk with rfl | hk
      · exact hlt
      · exact lt_trans hlt (hj k hk)
    · next hnlt =>
      split
      · exact h
      · next hne =>
        refine List.pairwise_cons.mpr ⟨fun k hk => ?_, ih ht⟩
        rcases mem_insertIx hk with rfl | hk
        · exact lt_of_le_of_ne (not_lt.mp hnlt) (Ne.symm hne)
        · exact hj k hk

theorem State.pendArrival_moves (s : State) (l : Link) (q : QueueIx) : Moves host w s w (s.pendArrival l q) :=
  (Move.unit l _ (UnitKept.of_arrivals (u := s.link l) _ (insertIx_rising q)) (.inr rfl)).moves

theorem State.withdrawArrival_moves (s : State) (l : Link) (q : QueueIx) : Moves host w s w (s.withdrawArrival l q) :=
  (Move.unit l _ (UnitKept.of_arrivals (u := s.link l) _ fun h => h.filter _) (.inr rfl)).moves

theorem State.arrivalEdge_moves (s : State) (q : QueueIx) (e : Queue) : Moves host w s w (s.arrivalEdge q e) := by
  unfold State.arrivalEdge
  split
  · split
    · exact s.pendArrival_moves _ q
    · exact .refl
  · exact .refl

theorem dropOldest_length {ms : List Message} (h : ms ≠ []) : (dropOldest ms).length + 1 = ms.length := by
  have := List.length_pos_iff.mpr h
  unfold dropOldest
  split
  · next ha =>
    obtain ⟨m, hm, hp⟩ := List.any_eq_true.mp ha
    rw [List.length_eraseP_of_mem hm hp]; omega
  · rw [List.length_drop]; omega

theorem State.placeMessage_moves {q : QueueIx} {e : Queue} (hq : s.queue q = some e) (m : Message) :
    Moves host w s w (s.placeMessage q e m).2 := by
  have hlen : ((s.queue q).map fun d => d.messages.length).getD 0 = e.messages.length := by simp [hq]
  cases hw : e.waitingTake with
  | some x =>
    rw [State.placeMessage_handed hw]
    exact (Move.endTake q e x _ hq hw rfl).moves
  | none =>
    by_cases hc : e.capacity ≤ e.messages.length
    · cases ho : e.overflow with
      | refuse => rw [State.placeMessage_full hw hc ho]; exact .refl
      | dropOldest =>
        rw [State.placeMessage_drop hw hc ho]
        refine (Move.setQueue q _ (by simp [hq]) fun h => ?_).moves
        obtain ⟨h1, h64, hfit, hdrops, htake⟩ := h.queue hq
        have hne : e.messages ≠ [] := by rintro hn; simp [hn] at hc; omega
        have hl := dropOldest_length hne
        refine h.setQueue ⟨h1, h64, ?_, ?_, fun x hx => ?_⟩ (.inl ?_)
        · simp; omega
        · exact saturate_le hdrops
        · simp [hw] at hx
        · simp [hlen]; omega
    · by_cases hp : 0 < s.slotsFree
      · rw [State.placeMessage_append hw (by omega) hp]
        refine Moves.trans (Move.setQueue q _ (by simp [hq]) fun h => ?_).moves (State.arrivalEdge_moves _ q e)
        obtain ⟨h1, h64, hfit, hdrops, htake⟩ := h.queue hq
        refine h.setQueue ⟨h1, h64, ?_, hdrops, fun x hx => ?_⟩ (.inr ⟨?_, ?_⟩)
        · simp; omega
        · simp [hw] at hx
        · simp [hlen]
        · simp only [State.slotsFree, Config.poolSize] at hp; omega
      · rw [State.placeMessage_noSlot hw (by omega) (by omega)]; exact .refl

theorem State.placeForward_moves (s : State) (q : QueueIx) (record : List Byte) : Moves host w s w (s.placeForward q record).2 := by
  unfold State.placeForward
  cases hq : s.queue q with
  | none => exact .refl
  | some e =>
    have hm := State.placeMessage_moves (host := host) (w := w) hq ⟨0xFF, 0, s.clock, true, record⟩
    dsimp only
    cases hp : s.placeMessage q e ⟨0xFF, 0, s.clock, true, record⟩ with
    | mk p t =>
      rw [hp] at hm
      cases p with
      | handed => exact hm
      | stored _ => exact hm
      | queueFull _ => exact .refl
      | poolEmpty => exact .refl

/-! ## Faults -/

/-- What is in hand after a fault: its forward post, if one has become pending, has the drain that goes on. -/
def Work.after (t : State) (d : Option CellIx) : Work := ⟨none, if t.forwardPosts = [] then d else none⟩

theorem Work.after_none (t : State) : Work.after t none = .idle := by simp [Work.after]

theorem Work.after_of_posts {t : State} (h : t.forwardPosts = []) : Work.after t d = ⟨none, d⟩ := by simp [Work.after, h]

theorem State.raise_moves (hp : s.forwardPosts = []) (hd : s.draining = none) (o : Faulting) (f : HubFault) :
    Moves host ⟨some ⟨o.link, o.tag, true⟩, d⟩ s (Work.after (s.raise o f d) d) (s.raise o f d) := by
  have hmark := s.markOccurred_moves (host := host) (w := ⟨some ⟨o.link, o.tag, true⟩, d⟩) o.link f.code.faultClass
  unfold State.raise
  dsimp only
  split
  · rw [Work.after_of_posts (by exact hp)]; exact hmark.trans (State.answer_moves ..)
  · rw [Work.after_of_posts (by exact hp)]; exact hmark.trans (State.answer_moves ..)
  · split
    · rw [Work.after_of_posts (by rw [State.finishForward_frame]; exact hp)]; exact hmark.trans (State.finishForward_moves ..)
    · refine hmark.trans ?_
      have : ∀ (t : State) (p : ForwardPost), Work.after { t with forwardPosts := t.forwardPosts ++ [p] } d = .idle := by
        intro t p; simp [Work.after]
      rw [this]
      exact (Move.post (s := s.markOccurred o.link f.code.faultClass) ⟨o.link, o.tag, o.kind, o.fields, _, _, d, _⟩ hp hd).moves

/-- A fault outside a drain. -/
theorem State.raise_moves_direct (hp : s.forwardPosts = []) (hd : s.draining = none) (o : Faulting) (f : HubFault) :
    Moves host ⟨some ⟨o.link, o.tag, true⟩, none⟩ s .idle (s.raise o f none) := by
  have := State.raise_moves (host := host) (d := none) hp hd o f
  rwa [Work.after_none] at this

theorem State.raiseInQueue_moves (s : State) (o : Faulting) (f : HubFault) (b : Bool) :
    Moves host ⟨some ⟨o.link, o.tag, b⟩, d⟩ s ⟨none, d⟩ (s.raiseInQueue o f) := by
  have hmark := s.markOccurred_moves (host := host) (w := ⟨some ⟨o.link, o.tag, b⟩, d⟩) o.link f.code.faultClass
  unfold State.raiseInQueue
  dsimp only
  split
  · exact hmark.trans (State.answer_moves ..)
  · exact hmark.trans (State.answer_moves ..)
  · split
    · exact hmark.trans (State.finishForward_moves ..)
    · exact hmark.trans ((State.placeForward_moves ..).trans (State.finishForward_moves ..))

/-! ## Cells -/

/-- An access makes at most a detection. -/
theorem State.accessCell_moves (s : State) (c : CellIx) : Moves host w s w (s.accessCell c).2 := by
  rcases s.accessCell_cases c with h | h | h <;> rw [h]
  · exact .refl
  · exact .refl
  · exact (Move.detect c).moves

/-- An access starts no forward post and no drain. -/
theorem State.accessCell_kept (s : State) (c : CellIx) :
    (s.accessCell c).2.forwardPosts = s.forwardPosts ∧ (s.accessCell c).2.draining = s.draining ∧ (s.accessCell c).2.dwq = s.dwq ∧
      (s.accessCell c).2.drains = s.drains := by
  rcases s.accessCell_cases c with h | h | h <;> rw [h]
  · exact ⟨rfl, rfl, rfl, rfl⟩
  · exact ⟨rfl, rfl, rfl, rfl⟩
  · rw [State.detect_eq]; exact ⟨rfl, rfl, rfl, rfl⟩

theorem State.applyWrite_moves (s : State) (l : Link) (tag : Tag) (b : Bool) (c : CellIx) (v : Quad) (deferred : Bool) :
    Moves host ⟨some ⟨l, tag, b⟩, d⟩ s ⟨none, d⟩ (s.applyWrite l tag c v deferred) :=
  (Move.modify c v l).moves.trans (State.answer_moves ..)

theorem State.applyFetchAdd_moves (hp : s.forwardPosts = []) (hd : s.draining = none) (l : Link) (tag : Tag) (c : CellIx) (delta : Quad)
    (deferred : Bool) :
    Moves host ⟨some ⟨l, tag, true⟩, d⟩ s (Work.after (s.applyFetchAdd l tag c delta deferred d) d)
      (s.applyFetchAdd l tag c delta deferred d) := by
  have hm := s.accessCell_moves (host := host) (w := ⟨some ⟨l, tag, true⟩, d⟩) c
  obtain ⟨kp, kd, -, -⟩ := s.accessCell_kept c
  unfold State.applyFetchAdd
  cases ha : s.accessCell c with
  | mk code t =>
    rw [ha] at hm kp kd
    cases code with
    | some code => exact hm.trans (State.raise_moves (kp.trans hp) (kd.trans hd) ⟨l, tag, 0x12, _⟩ _)
    | none =>
      dsimp only
      rw [Work.after_of_posts (by rw [State.answer_frame, State.modify_frame]; exact kp.trans hp)]
      exact (hm.then (Move.modify c _ l)).trans (State.answer_moves ..)

theorem State.consumeEntry_reservation (s : State) (l : Link) : ((s.consumeEntry l).entry l) = ⟨.none, (s.entry l).failures⟩ := by
  rw [(s.consumeEntry_lost l).rest]; exact getAt_setAt_same ..

theorem State.commitSucceeds_moves (s : State) (l : Link) (tag : Tag) (b : Bool) (c : CellIx) (v : Quad) (deferred : Bool) :
    Moves host ⟨some ⟨l, tag, b⟩, d⟩ s ⟨none, d⟩ (s.commitSucceeds l tag c v deferred) := by
  have he := (s.modify c v l (some l)).consumeEntry_reservation l
  have hz : ∀ e : Entry, e.reservation = .none → { e with failures := 0 } = (⟨.none, 0⟩ : Entry) := by rintro ⟨r, n⟩ rfl; rfl
  unfold State.commitSucceeds
  dsimp only
  rw [hz _ (by rw [he])]
  refine .answer (b := b) ?_
  refine Moves.then ?_ (Move.counters _ rfl)
  exact (Move.commit c v l).moves.then (Move.failures l 0 (.inl (by omega)) (by rw [he]))

theorem State.commitConflicts_moves (s : State) (l : Link) (tag : Tag) (b : Bool) (c : CellIx) (deferred : Bool) :
    Moves host ⟨some ⟨l, tag, b⟩, d⟩ s ⟨none, d⟩ (s.commitConflicts l tag c deferred) := by
  have he := s.consumeEntry_reservation l
  unfold State.commitConflicts
  dsimp only
  refine .answer (b := b) ?_
  refine Moves.then ?_ (Move.counters _ rfl)
  rw [he]
  refine (Move.consume l).moves.then (Move.failures l _ ?_ (by rw [he]))
  rw [he]
  exact saturate_le_or _ _

theorem State.commitArmed_moves (hp : s.forwardPosts = []) (hd : s.draining = none) (l : Link) (tag : Tag) (c : CellIx) (v : Quad)
    (deferred : Bool) :
    Moves host ⟨some ⟨l, tag, true⟩, d⟩ s (Work.after (s.commitArmed l tag c v deferred d) d) (s.commitArmed l tag c v deferred d) := by
  have hm := s.accessCell_moves (host := host) (w := ⟨some ⟨l, tag, true⟩, d⟩) c
  obtain ⟨kp, kd, -, -⟩ := s.accessCell_kept c
  unfold State.commitArmed
  cases ha : s.accessCell c with
  | mk code t =>
    rw [ha] at hm kp kd
    cases code with
    | some code =>
      refine (hm.then (Move.consume l)).trans (State.raise_moves ?_ ?_ ⟨l, tag, 0x19, _⟩ _)
      · rw [State.consumeEntry_frame]; exact kp.trans hp
      · rw [State.consumeEntry_frame]; exact kd.trans hd
    | none =>
      dsimp only
      rw [Work.after_of_posts]
      · exact hm.trans (State.commitSucceeds_moves ..)
      · rw [State.commitSucceeds, State.answer_frame, State.consumeEntry_frame, State.modify_frame]; exact kp.trans hp

theorem State.commitUnmatched_moves (hp : s.forwardPosts = []) (hd : s.draining = none) (l : Link) (tag : Tag) (c : CellIx) (code : FaultCode)
    (deferred : Bool) :
    Moves host ⟨some ⟨l, tag, true⟩, d⟩ s (Work.after (s.commitUnmatched l tag c code deferred d) d)
      (s.commitUnmatched l tag c code deferred d) :=
  State.raise_moves hp hd ⟨l, tag, 0x19, _⟩ _

theorem State.judgeCommit_moves (hp : s.forwardPosts = []) (hd : s.draining = none) (l : Link) (tag : Tag) (c : CellIx) (v : Quad)
    (deferred : Bool) :
    Moves host ⟨some ⟨l, tag, true⟩, d⟩ s (Work.after (s.judgeCommit l tag c v deferred d) d) (s.judgeCommit l tag c v deferred d) := by
  have hu := fun code => State.commitUnmatched_moves (host := host) (d := d) hp hd l tag c code deferred
  have ha := State.commitArmed_moves (host := host) (d := d) hp hd l tag c v deferred
  unfold State.judgeCommit
  split
  · exact hu _
  · split
    · rw [Work.after_of_posts]
      · exact State.commitConflicts_moves ..
      · rw [State.commitConflicts, State.answer_frame, State.consumeEntry_frame]; exact hp
    · exact hu _
  · split
    · exact ha
    · exact hu _
  · split
    · exact ha
    · exact hu _

theorem State.judgeDeferred_moves (hp : s.forwardPosts = []) (hd : s.draining = none) (e : DwqEntry) :
    Moves host ⟨some ⟨e.link, e.tag, true⟩, some e.cell⟩ s (Work.after (s.judgeDeferred e) (some e.cell)) (s.judgeDeferred e) := by
  unfold State.judgeDeferred
  split
  · cases e.kind with
    | write =>
      rw [Work.after_of_posts]
      · exact State.applyWrite_moves ..
      · dsimp only; rw [State.applyWrite, State.answer_frame, State.modify_frame]; exact hp
    | fetchAdd => exact State.applyFetchAdd_moves hp hd ..
    | commit => exact State.judgeCommit_moves hp hd ..
  · exact State.raise_moves hp hd ⟨e.link, e.tag, _, _⟩ _

/-! ## Drains and forward posts -/

/-- What the judgement of a request leaves: it takes none from the DWQ, begins no drain, and makes at most one forward post pending. -/
structure Judged (s t : State) : Prop where
  dwq : t.dwq = s.dwq
  draining : t.draining = s.draining
  posts : t.forwardPosts.length ≤ s.forwardPosts.length + 1

theorem State.raise_judged (s : State) (o : Faulting) (f : HubFault) (r : Option CellIx) : Judged s (s.raise o f r) := by
  refine ⟨by rw [State.raise_frame], by rw [State.raise_frame], ?_⟩
  unfold State.raise
  dsimp only
  split
  · exact Nat.le_succ _
  · exact Nat.le_succ _
  · split
    · rw [State.finishForward_frame]; exact Nat.le_succ _
    · simp [State.markOccurred]

/-- What leaves the DWQ, the drain in progress and the forward posts as they are judges, and may come before a judgement. -/
theorem Judged.after {u t : State} (h : Judged u t) (h1 : u.dwq = s.dwq) (h2 : u.draining = s.draining)
    (h3 : u.forwardPosts = s.forwardPosts) : Judged s t :=
  ⟨h.dwq.trans h1, h.draining.trans h2, h3 ▸ h.posts⟩

theorem Judged.of_eq {t : State} (h1 : t.dwq = s.dwq) (h2 : t.draining = s.draining) (h3 : t.forwardPosts = s.forwardPosts) : Judged s t :=
  ⟨h1, h2, h3 ▸ Nat.le_succ _⟩

theorem State.applyFetchAdd_judged (s : State) (l : Link) (tag : Tag) (c : CellIx) (delta : Quad) (deferred : Bool) (r : Option CellIx) :
    Judged s (s.applyFetchAdd l tag c delta deferred r) := by
  obtain ⟨kp, kd, kq, -⟩ := s.accessCell_kept c
  unfold State.applyFetchAdd
  cases ha : s.accessCell c with
  | mk code t =>
    rw [ha] at kp kd kq
    cases code with
    | some code => exact (State.raise_judged ..).after kq kd kp
    | none => dsimp only; rw [State.answer_frame, State.modify_frame]; exact .of_eq kq kd kp

theorem State.judgeCommit_judged (s : State) (l : Link) (tag : Tag) (c : CellIx) (v : Quad) (deferred : Bool) (r : Option CellIx) :
    Judged s (s.judgeCommit l tag c v deferred r) := by
  have hu : ∀ code, Judged s (s.commitUnmatched l tag c code deferred r) := fun code => State.raise_judged ..
  have ha : Judged s (s.commitArmed l tag c v deferred r) := by
    obtain ⟨kp, kd, kq, -⟩ := s.accessCell_kept c
    unfold State.commitArmed
    cases ha : s.accessCell c with
    | mk code t =>
      rw [ha] at kp kd kq
      cases code with
      | some code =>
        refine (State.raise_judged ..).after ?_ ?_ ?_ <;> rw [State.consumeEntry_frame]
        · exact kq
        · exact kd
        · exact kp
      | none =>
        dsimp only
        rw [State.commitSucceeds, State.answer_frame, State.consumeEntry_frame, State.modify_frame]
        exact .of_eq kq kd kp
  unfold State.judgeCommit
  split
  · exact hu _
  · split
    · rw [State.commitConflicts, State.answer_frame, State.consumeEntry_frame]; exact .of_eq rfl rfl rfl
    · exact hu _
  · split
    · exact ha
    · exact hu _
  · split
    · exact ha
    · exact hu _

theorem State.judgeDeferred_judged (s : State) (e : DwqEntry) : Judged s (s.judgeDeferred e) := by
  unfold State.judgeDeferred
  split
  · cases e.kind with
    | write => dsimp only; rw [State.applyWrite, State.answer_frame, State.modify_frame]; exact .of_eq rfl rfl rfl
    | fetchAdd => exact State.applyFetchAdd_judged ..
    | commit => exact State.judgeCommit_judged ..
  · exact State.raise_judged ..

theorem length_eraseP_of_find {α : Type} {p : α → Bool} {xs : List α} {x : α} (h : xs.find? p = some x) :
    (xs.eraseP p).length + 1 = xs.length := by
  have hm := List.mem_of_find?_eq_some h
  have := List.length_pos_of_mem hm
  rw [List.length_eraseP_of_mem hm (List.find?_some h)]; omega

/-- The entries of a drain, taken until there is none or one has a forward post pending, are a run of moves. -/
theorem drainEntries_moves (c : CellIx) : ∀ (n : Nat) {s : State}, s.dwq.length ≤ n → s.forwardPosts = [] → s.draining = none →
    Moves host ⟨none, some c⟩ s .idle (drainEntries c n s) := by
  have done : ∀ {s : State}, s.dwq.find? (fun e => decide (e.cell = c)) = none → Moves host ⟨none, some c⟩ s .idle s := fun h =>
    (Move.endDrain c fun e he => by simpa using List.find?_eq_none.mp h e he).moves
  intro n
  induction n with
  | zero => intro s hn _ _; exact done (by simp [List.length_eq_zero_iff.mp (Nat.le_zero.mp hn)])
  | succ n ih =>
    intro s hn hp hd
    unfold drainEntries
    rw [if_pos (by simp [hp])]
    cases hf : s.dwq.find? (fun e => decide (e.cell = c)) with
    | none => exact done hf
    | some e =>
      have hc : e.cell = c := by simpa using List.find?_some hf
      have hlen := length_eraseP_of_find hf
      dsimp only
      generalize hu : ({ s with dwq := s.dwq.eraseP fun e => decide (e.cell = c) } : State) = u
      have hup : u.forwardPosts = [] := by rw [← hu]; exact hp
      have hud : u.draining = none := by rw [← hu]; exact hd
      have hun : u.dwq.length ≤ n := by rw [← hu]; dsimp only; omega
      have hj := u.judgeDeferred_judged e
      have hm : Moves host ⟨none, some c⟩ s (Work.after (u.judgeDeferred e) (some c)) (u.judgeDeferred e) := by
        subst hu hc
        exact (Move.undefer _ e hf).moves.trans (State.judgeDeferred_moves hup hud e)
      refine hm.trans ?_
      by_cases hq : (u.judgeDeferred e).forwardPosts = []
      · rw [Work.after_of_posts hq]
        exact ih (by rw [hj.dwq]; exact hun) hq (by rw [hj.draining]; exact hud)
      · have : Work.after (u.judgeDeferred e) (some c) = .idle := by simp [Work.after, hq]
        rw [this]
        cases n with
        | zero => exact .refl
        | succ n => unfold drainEntries; rw [if_neg (by simpa using hq)]; exact .refl

theorem State.drainRest_moves (c : CellIx) (hp : s.forwardPosts = []) (hd : s.draining = none) :
    Moves host ⟨none, some c⟩ s .idle (s.drainRest c) :=
  drainEntries_moves c _ le_rfl hp hd

theorem State.takeDrain_moves (hp : s.forwardPosts = []) (hd : s.draining = none) : Moves host .idle s .idle s.takeDrain := by
  unfold State.takeDrain
  split
  · exact .refl
  · next c rest hc => exact .head (Move.startDrain c rest hc hp hd) (State.drainRest_moves c hp hd)

theorem State.resumeDrain_moves (hp : s.forwardPosts = []) : Moves host .idle s .idle s.resumeDrain := by
  unfold State.resumeDrain
  split
  · next c hc => exact .head (Move.resume c hp hc) (State.drainRest_moves c hp rfl)
  · exact .refl

theorem State.takeForwardPost_moves (s : State) : Moves host .idle s .idle s.takeForwardPost := by
  unfold State.takeForwardPost
  split
  · exact .refl
  · next p rest hp =>
    have h1 : Moves host .idle s ⟨some ⟨p.link, p.tag, true⟩, p.resume⟩ _ := (Move.unpost p rest hp).moves
    have h2 := h1.trans ((State.placeForward_moves { s with forwardPosts := rest } p.queue p.record).trans
      (State.finishForward_moves _ ⟨p.link, p.tag, p.kind, p.fields⟩ true
        (State.placeForward { s with forwardPosts := rest } p.queue p.record).1))
    dsimp only
    cases hr : p.resume with
    | none => rw [hr] at h2; exact h2
    | some c =>
      rw [hr] at h2
      refine h2.trans ?_
      dsimp only
      unfold State.pauseDrain
      split
      · exact (Move.pause c).moves
      · next hn => exact (Move.endDrain c fun e he hc => hn (List.any_eq_true.mpr ⟨e, he, by simpa using hc⟩)).moves

/-! ## The operation in progress is completed -/

/-- What waits for the operation in progress, in the DWQ and as forward posts. -/
def State.backlog (s : State) : Nat := s.forwardPosts.length + s.dwq.length

theorem drainEntries_backlog (c : CellIx) : ∀ (n : Nat) (s : State), (drainEntries c n s).backlog ≤ s.backlog := by
  intro n
  induction n with
  | zero => intro s; exact le_rfl
  | succ n ih =>
    intro s
    unfold drainEntries
    split
    · cases hf : s.dwq.find? (fun e => decide (e.cell = c)) with
      | none => exact le_rfl
      | some e =>
        refine (ih _).trans ?_
        have hj := State.judgeDeferred_judged { s with dwq := s.dwq.eraseP fun e => decide (e.cell = c) } e
        have hlen := length_eraseP_of_find hf
        have h1 := hj.posts
        have h2 := congrArg List.length hj.dwq
        simp only [State.backlog] at *
        omega
    · exact le_rfl

theorem drainEntries_draining (c : CellIx) : ∀ (n : Nat) (s : State), (drainEntries c n s).draining = s.draining := by
  intro n
  induction n with
  | zero => intro s; rfl
  | succ n ih =>
    intro s
    unfold drainEntries
    split
    · split
      · rfl
      · rw [ih, (State.judgeDeferred_judged ..).draining]
    · rfl

theorem State.resumeDrain_backlog (s : State) : s.resumeDrain.backlog ≤ s.backlog := by
  unfold State.resumeDrain
  split
  · exact drainEntries_backlog ..
  · exact le_rfl

theorem State.resumeDrain_draining (s : State) : s.resumeDrain.draining = none := by
  unfold State.resumeDrain
  split
  · exact drainEntries_draining ..
  · assumption

/-- Taking a forward post leaves one thing less to wait for. -/
theorem State.takeForwardPost_backlog {s : State} (h : s.forwardPosts ≠ []) : s.takeForwardPost.backlog + 1 = s.backlog := by
  cases hp : s.forwardPosts with
  | nil => exact absurd hp h
  | cons p rest =>
    have key : ∀ t : State, t.forwardPosts = rest → t.dwq = s.dwq → t.backlog + 1 = s.backlog := by
      intro t h1 h2; simp only [State.backlog, h1, h2, hp, List.length_cons]; omega
    unfold State.takeForwardPost
    rw [hp]
    dsimp only
    cases p.resume with
    | none =>
      dsimp only
      rw [State.finishForward_frame, State.placeForward_frame]; exact key _ rfl rfl
    | some c =>
      dsimp only
      rw [State.pauseDrain_eq, State.finishForward_frame, State.placeForward_frame]
      split <;> exact key _ rfl rfl

theorem settlePosts_moves : ∀ (n : Nat) {s : State}, s.backlog ≤ n →
    Moves host .idle s .idle (settlePosts n s) ∧ (settlePosts n s).inProgress = false := by
  intro n
  induction n with
  | zero =>
    intro s hn
    have hp : s.forwardPosts = [] := by simp [State.backlog] at hn; exact hn.1
    refine ⟨State.resumeDrain_moves hp, State.inProgress_eq_false.mpr ⟨?_, s.resumeDrain_draining⟩⟩
    have := s.resumeDrain_backlog.trans hn
    simp [State.backlog] at this; exact this.1
  | succ n ih =>
    intro s hn
    unfold settlePosts
    by_cases hp : s.forwardPosts = []
    · rw [if_pos (by simp [hp])]
      by_cases hq : s.resumeDrain.forwardPosts = []
      · rw [if_pos (by simp [hq])]
        exact ⟨State.resumeDrain_moves hp, State.inProgress_eq_false.mpr ⟨hq, s.resumeDrain_draining⟩⟩
      · rw [if_neg (by simpa using hq)]
        have h1 := State.takeForwardPost_backlog hq
        have h2 := s.resumeDrain_backlog
        obtain ⟨hm, hi⟩ := ih (s := s.resumeDrain.takeForwardPost) (by omega)
        exact ⟨(State.resumeDrain_moves hp).trans ((State.takeForwardPost_moves _).trans hm), hi⟩
    · rw [if_neg (by simpa using hp)]
      have h1 := State.takeForwardPost_backlog hp
      obtain ⟨hm, hi⟩ := ih (s := s.takeForwardPost) (by omega)
      exact ⟨(State.takeForwardPost_moves _).trans hm, hi⟩

theorem State.finishOperation_moves (s : State) : Moves host .idle s .idle s.finishOperation :=
  (settlePosts_moves _ le_rfl).1

/-- The operation in progress is completed (R80). -/
theorem State.finishOperation_idle (s : State) : s.finishOperation.inProgress = false :=
  (settlePosts_moves (host := True) _ le_rfl).2

end Sys2Proof.Machine
end

section
/-! PROOF. The end of a session, the settling of what is due, the receivers and the routing of arrivals as runs of moves. -/

set_option Elab.async false

namespace Sys2Proof.Machine

variable {host : Prop} {w : Work} {s : State} {d : Option CellIx}

/-! ## The role -/

/-- A change of the role touches the ROLE and INTEGRITY entries of the links alone. -/
theorem State.changeAdmin_link (s : State) (new : Option Link) (k : Link) :
    ∃ role integrity, (s.changeAdmin new).link k =
      { s.link k with reports := { (s.link k).reports with role := role, integrity := integrity } } := by
  have key : ∀ (t : State) (l : Link) (f : PendingReports → PendingReports),
      (∀ r, ∃ a b, f r = { r with role := a, integrity := b }) →
      (∃ a b, t.link k = { s.link k with reports := { (s.link k).reports with role := a, integrity := b } }) →
      ∃ a b, (t.updReports l f).link k = { s.link k with reports := { (s.link k).reports with role := a, integrity := b } } := by
    rintro t l f hf ⟨a, b, ht⟩
    by_cases hk : k = l
    · subst hk
      obtain ⟨a', b', h⟩ := hf (t.link k).reports
      refine ⟨a', b', ?_⟩
      rw [State.updReports, State.updLink_link_same, h, ht]
    · exact ⟨a, b, by rw [State.updReports, State.updLink_link_ne _ hk, ht]⟩
  have hrole : ∀ r : PendingReports, ∃ a b, { r with role := true } = { r with role := a, integrity := b } := fun r => ⟨true, r.integrity, rfl⟩
  have hint : ∀ (x : Bool) (r : PendingReports), ∃ a b, { r with integrity := x } = { r with role := a, integrity := b } :=
    fun x r => ⟨r.role, x, rfl⟩
  have hs : ∃ a b, s.link k = { s.link k with reports := { (s.link k).reports with role := a, integrity := b } } :=
    ⟨(s.link k).reports.role, (s.link k).reports.integrity, rfl⟩
  have gain : ∀ t : State, (∃ a b, t.link k = { s.link k with reports := { (s.link k).reports with role := a, integrity := b } }) →
      ∃ a b, (match new with
        | some g => if 0 < s.unreported then (t.pendRole g).pendIntegrity g else t.pendRole g
        | none => t).link k = { s.link k with reports := { (s.link k).reports with role := a, integrity := b } } := by
    intro t ht
    cases new with
    | none => exact ht
    | some g =>
      dsimp only
      split
      · exact key _ g _ (hint true) (key t g _ hrole ht)
      · exact key t g _ hrole ht
  unfold State.changeAdmin
  split
  · exact hs
  · refine gain _ ?_
    cases s.admin with
    | none => exact hs
    | some old =>
      dsimp only
      split
      · exact key _ old _ hrole (key _ old _ (hint false) hs)
      · exact key _ old _ (hint false) hs

theorem State.vacateAdmin_link (s : State) (l k : Link) :
    ∃ role integrity, (s.vacateAdmin l).link k =
      { s.link k with reports := { (s.link k).reports with role := role, integrity := integrity } } := by
  unfold State.vacateAdmin
  split
  · exact s.changeAdmin_link _ k
  · exact ⟨_, _, rfl⟩

/-- The role has left the session that gave it up. -/
theorem State.vacateAdmin_admin_ne (s : State) (l : Link) : (s.vacateAdmin l).admin ≠ some l := by
  by_cases h : s.admin = some l
  · intro hl
    exact ((State.vacateAdmin_elected h).winner l hl).1 rfl
  · simp [State.vacateAdmin, h]

/-! ## The end of a session -/

/-- The session's own records are given up: its entry, its watches and its fault record. -/
def State.giveUp (s : State) (l : Link) : State :=
  State.setFaultRecord
    { (s.consumeEntry l).setEntry l {} with watches := (s.consumeEntry l).watches.filter fun w => decide (w.link ≠ l) } l {}

theorem State.teardownEffects_eq (s : State) (l : Link) : s.teardownEffects l = (s.giveUp l).detach l := rfl

theorem State.giveUp_moves (s : State) (l : Link) : Moves host w s w (s.giveUp l) := by
  have he := s.consumeEntry_reservation l
  have h1 : Moves host w s w ((s.consumeEntry l).setEntry l {}) :=
    (Move.consume l).moves.then (Move.failures l 0 (.inl (by omega)) (by rw [he]))
  refine (h1.then (Move.watches _ fun hw => ?_)).then (Move.record l {} ⟨fun _ => rfl, fun q h => by cases h⟩)
  obtain ⟨hcount, hdistinct, hpending⟩ := hw
  refine ⟨fun k => ?_, hdistinct.filter _, fun x hx => hpending x (List.mem_of_mem_filter hx)⟩
  exact (List.Sublist.length_le (List.Sublist.filter _ List.filter_sublist)).trans (hcount k)

theorem State.giveUp_frame (s : State) (l : Link) :
    s.giveUp l = { s with
      entries := (s.giveUp l).entries, holds := (s.giveUp l).holds, drains := (s.giveUp l).drains, watches := (s.giveUp l).watches
      faults := (s.giveUp l).faults } := by
  unfold State.giveUp
  rw [State.consumeEntry_frame]; rfl

theorem State.giveUp_entry (s : State) (l : Link) : (s.giveUp l).entry l = {} :=
  (s.consumeEntry l).setEntry_entry_same l {}

theorem State.detach_frame (s : State) (l : Link) :
    s.detach l = { s with
      dwq := s.dwq.filter fun e => decide (e.link ≠ l)
      queues := s.queues.map fun e : QueueIx × Queue => (e.1, e.2.unbindFrom l)
      sessions := setAt s.sessions l none
      admin := (s.detach l).admin
      links := (s.detach l).links } := by
  unfold State.detach; rw [State.vacateAdmin_frame]

/-- The session on `l` is gone, its link unit emptied and its lines too; nothing of an operation in progress is left to it. -/
theorem State.teardown_moves (hp : s.forwardPosts = []) (hd : s.draining = none) (l : Link) (k : LinkCounters) (ended : Option SessionEnded)
    (entry : Option LinkEntry) (hk : k = {} ∨ k = ((s.teardownEffects l).link l).counters) (hn : k ≠ {} → entry ≠ none) :
    Moves host .idle s .idle ((s.teardownEffects l).emptyLink l k ended entry) := by
  have hg := s.giveUp_frame l
  rw [State.teardownEffects_eq] at hk ⊢
  refine (s.giveUp_moves l).then (Move.detachAbrupt l k ended entry ?_ ?_ ?_ ?_ hn)
  · rw [hg]; exact hp
  · rw [hg]; exact hd
  · rw [s.giveUp_entry l]
  · refine hk.imp id fun hk => hk.trans ?_
    obtain ⟨a, b, h⟩ := State.vacateAdmin_link { s.giveUp l with
      dwq := (s.giveUp l).dwq.filter fun e => decide (e.link ≠ l)
      queues := (s.giveUp l).queues.map fun e : QueueIx × Queue => (e.1, e.2.unbindFrom l)
      sessions := setAt (s.giveUp l).sessions l none } l l
    rw [State.detach, h]; rfl

theorem noticeIfCounted_ne {c : LinkCounters} (h : c ≠ {}) : noticeIfCounted c ≠ none := by simp [noticeIfCounted, h]

theorem State.leaseTeardown_moves (hp : s.forwardPosts = []) (hd : s.draining = none) (l : Link) :
    Moves host .idle s .idle (s.leaseTeardown l) := by
  have hc : (((s.teardownEffects l).clearLink l).link l).counters = ((s.teardownEffects l).link l).counters := by
    rw [State.clearLink, State.updLink_link_same]; rfl
  have := State.teardown_moves (host := host) hp hd l _ (s.sessionEndedOf l .lease) (noticeIfCounted _) (.inr hc) noticeIfCounted_ne
  exact this

theorem State.doResync_moves (hp : s.forwardPosts = []) (hd : s.draining = none) (l : Link) : Moves True .idle s .idle (s.doResync l) := by
  unfold State.doResync
  dsimp only
  split
  · exact State.teardown_moves hp hd l {} _ _ (.inl rfl) fun h => absurd rfl h
  · next hx =>
    exact (Move.emptyLink trivial l {} _ _ (by simpa using hx) (.inl rfl) fun h => absurd rfl h).moves

/-- The CLOSE of a session whose clean teardown is due is its one request in flight (R110). -/
theorem State.closeDue_eq_some {l : Link} {tag : Tag} (h : s.closeDue l = some tag) :
    ∃ x, s.session l = some x ∧ x.phase = .closing ∧ (s.link l).tags = [tag] := by
  unfold State.closeDue at h
  split at h
  · next x hx =>
    split at h
    · next hph =>
      split at h
      · next t ht => cases h; exact ⟨x, hx, hph, ht⟩
      · cases h
    · cases h
  · cases h

theorem State.cleanTeardown_moves {l : Link} {tag : Tag} (h : s.closeDue l = some tag) :
    Moves host .idle s .idle (s.cleanTeardown l tag) := by
  obtain ⟨x, hx, hph, ht⟩ := State.closeDue_eq_some h
  have hg := s.giveUp_frame l
  unfold State.cleanTeardown
  dsimp only
  refine .answer (b := false) (.then ?_ (Move.withdraw l _ ?_))
  · refine (s.giveUp_moves l).then (Move.detachClean l tag x ?_ hph ?_ ?_)
    · rw [hg]; exact hx
    · rw [hg]; exact ht
    · rw [s.giveUp_entry l]
  · exact State.vacateAdmin_admin_ne _ l

theorem State.finishClose_moves (s : State) (l : Link) : Moves host .idle s .idle (s.finishClose l) := by
  unfold State.finishClose
  split
  · next tag h => exact State.cleanTeardown_moves h
  · exact .refl

theorem State.foldl_moves {α : Type} {f : State → α → State} (hf : ∀ s x, Moves host .idle s .idle (f s x)) (xs : List α) (s : State) :
    Moves host .idle s .idle (xs.foldl f s) := by
  induction xs generalizing s with
  | nil => exact .refl
  | cons x xs ih => exact (hf s x).trans (ih _)

theorem State.settle_moves (s : State) : Moves host .idle s .idle s.settle := by
  unfold State.settle
  split
  · exact .refl
  · exact s.finishOperation_moves.trans (State.foldl_moves State.finishClose_moves _ _)

/-! ## Nothing is in progress once what is due has been completed -/

/-- A clean teardown touches no forward post and no drain in progress. -/
theorem State.cleanTeardown_inProgress (s : State) (l : Link) (tag : Tag) : (s.cleanTeardown l tag).inProgress = s.inProgress := by
  have : (s.cleanTeardown l tag).forwardPosts = s.forwardPosts ∧ (s.cleanTeardown l tag).draining = s.draining := by
    unfold State.cleanTeardown
    dsimp only
    rw [State.answer_frame, State.updReports_frame, State.teardownEffects_frame]
    exact ⟨rfl, rfl⟩
  simp only [State.inProgress, this]

theorem State.finishClose_inProgress (s : State) (l : Link) : (s.finishClose l).inProgress = s.inProgress := by
  unfold State.finishClose
  split
  · exact s.cleanTeardown_inProgress l _
  · rfl

theorem State.foldl_finishClose_inProgress (ls : List Link) (s : State) : (ls.foldl State.finishClose s).inProgress = s.inProgress := by
  induction ls generalizing s with
  | nil => rfl
  | cons l ls ih => exact (ih _).trans (s.finishClose_inProgress l)

/-- After what is due has been completed no operation is in progress, unless a reset request stands. -/
theorem State.settle_idle (h : s.resetStands = false) : s.settle.inProgress = false := by
  rw [State.settle, h]
  exact (State.foldl_finishClose_inProgress ..).trans s.finishOperation_idle

/-- No operation is in progress, or a reset request stands, so that no work is taken. -/
def State.ready (s : State) : Prop := s.resetStands = true ∨ s.inProgress = false

theorem State.expireHold_frame (s : State) (h : HoldRecord) :
    s.expireHold h = { s with
      entries := (s.expireHold h).entries, holds := (s.endHold h.holder h.cell).holds, drains := (s.endHold h.holder h.cell).drains
      counters := { s.counters with holdsExpired := s.counters.holdsExpired + 1 } } := by
  unfold State.expireHold
  dsimp only
  rw [State.endHold_frame]
  split
  · split <;> rfl
  · rfl

theorem State.emptyLink_frame (s : State) (l : Link) (k : LinkCounters) (ended : Option SessionEnded) (entry : Option LinkEntry) :
    s.emptyLink l k ended entry = { s with
      cellLines := setAt s.cellLines l [], queueLines := setAt s.queueLines l [], links := (s.emptyLink l k ended entry).links } := rfl

theorem State.armed_frame (s : State) (l : Link) (c : CellIx) :
    s.armed l c = { s with
      entries := (s.armed l c).entries, holds := (s.armed l c).holds, drains := (s.consumeEntry l).drains, counters := (s.armed l c).counters } := by
  unfold State.armed
  dsimp only
  rw [State.consumeEntry_frame]
  split <;> rfl

theorem State.renewLease_frame (s : State) (l : Link) : s.renewLease l = { s with sessions := (s.renewLease l).sessions } := by
  unfold State.renewLease; split <;> rfl

/-- The pins, the rate and the commands that wait are touched by no move. -/
theorem Moves.pins {w' : Work} {t : State} (h : Moves host w s w' t) :
    t.pending = s.pending ∧ t.rstn = s.rstn ∧ t.lineRate = s.lineRate := by
  refine h.keeps (P := fun _ t => t.pending = s.pending ∧ t.rstn = s.rstn ∧ t.lineRate = s.lineRate) (fun {w s' w' t} m hs => ?_)
    ⟨rfl, rfl, rfl⟩
  have : t.pending = s'.pending ∧ t.rstn = s'.rstn ∧ t.lineRate = s'.lineRate := by
    cases m with
    | detect c => rw [State.detect_eq]; exact ⟨rfl, rfl, rfl⟩
    | consume l => rw [State.consumeEntry_frame]; exact ⟨rfl, rfl, rfl⟩
    | modify c v l => rw [State.modify_frame]; exact ⟨rfl, rfl, rfl⟩
    | commit c v l => rw [State.consumeEntry_frame, State.modify_frame]; exact ⟨rfl, rfl, rfl⟩
    | expire h => rw [State.expireHold_frame]; exact ⟨rfl, rfl, rfl⟩
    | arm _ l c => rw [State.armed_frame]; exact ⟨rfl, rfl, rfl⟩
    | renew _ l => rw [State.renewLease_frame]; exact ⟨rfl, rfl, rfl⟩
    | attach => split <;> [rw [State.changeAdmin_frame]; skip] <;> exact ⟨rfl, rfl, rfl⟩
    | closing => rw [State.vacateAdmin_frame]; exact ⟨rfl, rfl, rfl⟩
    | changeAdmin => rw [State.changeAdmin_frame]; exact ⟨rfl, rfl, rfl⟩
    | detachClean => rw [State.detach_frame]; exact ⟨rfl, rfl, rfl⟩
    | detachAbrupt => rw [State.emptyLink_frame, State.detach_frame]; exact ⟨rfl, rfl, rfl⟩
    | _ => exact ⟨rfl, rfl, rfl⟩
  exact ⟨this.1.trans hs.1, this.2.1.trans hs.2.1, this.2.2.trans hs.2.2⟩

/-- The hub's own moves set no reset request and keep the clock. -/
theorem Moves.own {w' : Work} {t : State} (h : Moves False w s w' t) : t.resetRequest = s.resetRequest ∧ t.clock = s.clock := by
  refine h.keeps (P := fun _ t => t.resetRequest = s.resetRequest ∧ t.clock = s.clock) (fun {w s' w' t} m hs => ?_) ⟨rfl, rfl⟩
  have : t.resetRequest = s'.resetRequest ∧ t.clock = s'.clock := by
    cases m with
    | detect c => rw [State.detect_eq]; exact ⟨rfl, rfl⟩
    | consume l => rw [State.consumeEntry_frame]; exact ⟨rfl, rfl⟩
    | modify c v l => rw [State.modify_frame]; exact ⟨rfl, rfl⟩
    | commit c v l => rw [State.consumeEntry_frame, State.modify_frame]; exact ⟨rfl, rfl⟩
    | expire h => rw [State.expireHold_frame]; exact ⟨rfl, rfl⟩
    | detachClean => rw [State.detach_frame]; exact ⟨rfl, rfl⟩
    | detachAbrupt => rw [State.emptyLink_frame, State.detach_frame]; exact ⟨rfl, rfl⟩
    | _ => first | contradiction | exact ⟨rfl, rfl⟩
  exact ⟨this.1.trans hs.1, this.2.trans hs.2⟩

theorem State.settle_resetRequest (s : State) : s.settle.resetRequest = s.resetRequest := (s.settle_moves (host := False)).own.1

theorem State.settle_resetStands (s : State) : s.settle.resetStands = s.resetStands := by
  simp [State.resetStands, s.settle_resetRequest]

theorem State.settle_ready (s : State) : s.settle.ready := by
  cases h : s.resetStands with
  | true => exact .inl (s.settle_resetStands.trans h)
  | false => exact .inr (State.settle_idle h)

/-! ## Arrivals -/

theorem State.countError_moves (s : State) (l : Link) (k : CounterName) : Moves host w s w (s.countError l k) := by
  refine (Move.unit l ((s.link l).noted k) ⟨rfl, rfl, rfl, le_rfl, rfl, fun h => ?_⟩ (.inr rfl)).moves
  obtain ⟨hr, ha, h1, h2, h3, h4, h5, h6, -⟩ := h
  refine ⟨hr, ha, ?_⟩
  have hs : ∀ n, n ≤ 255 → saturate Config.counterMax n ≤ 255 := fun n h => saturate_le h
  cases k <;> simp [LinkUnit.noted, raiseCounter, hs, h1, h2, h3, h4, h5, h6]

/-- A request that SES hands on is one of a session, and goes to a line. -/
theorem State.verdict_handOn {l : Link} {r : Request} {k : Destination} (h : s.verdict l r = .handOn k) :
    (s.session l).isSome = true ∧ k ≠ .atArrival := by
  unfold State.verdict at h
  split at h
  · split at h
    · split at h <;> cases h
    · cases h
  · next x hx =>
    refine ⟨by simp [hx], ?_⟩
    split at h
    · split at h <;> cases h
    · split at h
      · cases h
      · next hk => cases h; exact hk

theorem routeArrived_moves (l : Link) : ∀ (xs : List Waiting) {s : State}, (s.link l).inbox = xs →
    Moves True ⟨none, d⟩ s ⟨none, d⟩ (routeArrived l xs s) := by
  intro xs
  induction xs with
  | nil => intro s _; exact .refl
  | cons x rest ih =>
    intro s hi
    have htake := Move.fromInbox (host := True) (d := d) trivial l x rest hi
    unfold routeArrived
    split
    · exact .refl
    · next k hk =>
      obtain ⟨hx, hk⟩ := State.verdict_handOn hk
      rw [hx] at htake
      refine .head htake (.trans ?_ (ih ?_))
      · cases k with
        | atArrival => exact absurd rfl hk
        | cellLine => exact (Move.intoCellLine trivial l x).moves
        | queueLine => exact (Move.intoQueueLine trivial l x).moves
      · cases k <;> simp [State.handOn, State.setCellLine, State.setQueueLine, State.link, State.updLink]
    · refine .head htake (.trans (State.answer_moves ..) (ih ?_))
      simp [State.answer, State.placeReply]

theorem State.route_moves (s : State) (l : Link) : Moves True ⟨none, d⟩ s ⟨none, d⟩ (s.route l) := by
  unfold State.route
  split
  · exact .refl
  · exact routeArrived_moves l _ rfl

theorem State.refuseForm_moves (s : State) (l : Link) (tag : Tag) (b : Bool) (kind : Byte) (f : HubFault) :
    Moves host ⟨some ⟨l, tag, b⟩, d⟩ s ⟨none, d⟩ (s.refuseForm l tag kind f) := by
  unfold State.refuseForm
  dsimp only
  split
  · exact (s.markOccurred_moves l .form).then (Move.answer l ⟨kind, tag, .fault, faultFields f⟩ b)
  · exact (Move.answer l ⟨kind, tag, .fault, faultFields f⟩ b).moves

theorem State.checkAccepted_moves (s : State) (l : Link) (f : RawFrame) (b : Bool) :
    Moves True ⟨some ⟨l, f.tag, b⟩, d⟩ s ⟨none, d⟩ (s.checkAccepted l f) := by
  unfold State.checkAccepted
  split
  · next r _ => exact .head (Move.intoInbox trivial l ⟨f.tag, r⟩ b) (State.route_moves _ l)
  · exact s.refuseForm_moves ..

theorem State.windowFrame_moves (s : State) (l : Link) (f : RawFrame) : Moves True ⟨none, d⟩ s ⟨none, d⟩ (s.windowFrame l f) := by
  unfold State.windowFrame
  dsimp only
  split
  · exact s.countError_moves l _
  · next hfree =>
    split
    · exact s.countError_moves l _
    · next hnew =>
      refine .head (Move.accept trivial l f.tag (Nat.lt_of_not_le hfree) hnew) ?_
      split
      · exact (Move.holdFrame (s := s.withLink l _) trivial l f _).moves
      · exact State.checkAccepted_moves ..

/-- A unit of which only the RESYNC held is new. -/
theorem State.takeResync_moves (hr : s.ready) (l : Link) : Moves True .idle s .idle (s.takeResync l) := by
  unfold State.takeResync
  split
  · exact (Move.unit l { s.link l with heldResync := true } ⟨rfl, rfl, rfl, le_rfl, rfl, id⟩ (.inl trivial)).moves
  · next h =>
    obtain ⟨hp, hd⟩ := State.inProgress_eq_false.mp (hr.resolve_left h)
    exact State.doResync_moves hp hd l

theorem State.validFrame_moves (hr : s.ready) (l : Link) (f : RawFrame) : Moves True .idle s .idle (s.validFrame l f) := by
  unfold State.validFrame
  dsimp only
  refine .head (Move.renew trivial l) ?_
  split
  · refine State.takeResync_moves ?_ l
    rw [State.renewLease_frame]; exact hr
  · exact State.windowFrame_moves ..

end Sys2Proof.Machine
end

section
/-! PROOF. The receivers, the transmitters and the passing of time as runs of moves. -/

set_option Elab.async false

namespace Sys2Proof.Machine

variable {host : Prop} {w : Work} {s : State} {d : Option CellIx}

/-! ## What a frame leaves -/

theorem routeArrived_frame (l : Link) (xs : List Waiting) (s : State) :
    routeArrived l xs s = { s with
      links := (routeArrived l xs s).links, cellLines := (routeArrived l xs s).cellLines, queueLines := (routeArrived l xs s).queueLines } := by
  induction xs generalizing s with
  | nil => rfl
  | cons x rest ih =>
    unfold routeArrived
    split
    · rfl
    · next k _ => cases k <;> (rw [ih]; rfl)
    · rw [ih]; rfl

theorem State.route_frame (s : State) (l : Link) :
    s.route l = { s with links := (s.route l).links, cellLines := (s.route l).cellLines, queueLines := (s.route l).queueLines } := by
  unfold State.route
  split
  · rfl
  · exact routeArrived_frame ..

theorem State.windowFrame_frame (s : State) (l : Link) (f : RawFrame) :
    s.windowFrame l f = { s with
      links := (s.windowFrame l f).links, cellLines := (s.windowFrame l f).cellLines, queueLines := (s.windowFrame l f).queueLines
      faults := (s.windowFrame l f).faults } := by
  unfold State.windowFrame
  dsimp only
  split
  · rfl
  · split
    · rfl
    · split
      · rfl
      · unfold State.checkAccepted
        split
        · rw [State.route_frame]; rfl
        · unfold State.refuseForm; dsimp only; split <;> rfl

/-- What a frame or a gap leaves of the operation in progress, the reset request and the clock. -/
structure WorkKept (s t : State) : Prop where
  posts : t.forwardPosts = s.forwardPosts
  draining : t.draining = s.draining
  request : t.resetRequest = s.resetRequest
  clock : t.clock = s.clock

theorem WorkKept.rfl' : WorkKept s s := ⟨rfl, rfl, rfl, rfl⟩

theorem WorkKept.trans {t u : State} (h : WorkKept s t) (h' : WorkKept t u) : WorkKept s u :=
  ⟨h'.posts.trans h.posts, h'.draining.trans h.draining, h'.request.trans h.request, h'.clock.trans h.clock⟩

theorem WorkKept.inProgress {t : State} (h : WorkKept s t) : t.inProgress = s.inProgress := by
  simp only [State.inProgress, h.posts, h.draining]

theorem WorkKept.resetStands {t : State} (h : WorkKept s t) : t.resetStands = s.resetStands := by
  simp only [State.resetStands, h.request]

theorem WorkKept.ready {t : State} (h : WorkKept s t) (hr : s.ready) : t.ready := by
  unfold State.ready; rw [h.inProgress, h.resetStands]; exact hr

theorem State.renewLease_workKept (s : State) (l : Link) : WorkKept s (s.renewLease l) := by
  rw [State.renewLease_frame]; exact ⟨rfl, rfl, rfl, rfl⟩

theorem State.doResync_workKept (s : State) (l : Link) : WorkKept s (s.doResync l) := by
  unfold State.doResync
  dsimp only
  split
  · rw [State.teardownEffects_frame]; exact ⟨rfl, rfl, rfl, rfl⟩
  · exact ⟨rfl, rfl, rfl, rfl⟩

theorem State.takeResync_workKept (s : State) (l : Link) : WorkKept s (s.takeResync l) := by
  unfold State.takeResync
  split
  · exact ⟨rfl, rfl, rfl, rfl⟩
  · exact s.doResync_workKept l

theorem State.validFrame_workKept (s : State) (l : Link) (f : RawFrame) : WorkKept s (s.validFrame l f) := by
  unfold State.validFrame
  dsimp only
  refine (s.renewLease_workKept l).trans ?_
  split
  · exact State.takeResync_workKept ..
  · rw [State.windowFrame_frame]; exact ⟨rfl, rfl, rfl, rfl⟩

/-! ## The receivers -/

theorem State.setReceiver_moves (s : State) (l : Link) {r : Receiver} (hr : ReceiverWf r) :
    Moves True w s w (s.updLink l fun u => { u with receiver := r }) :=
  (Move.unit l { s.link l with receiver := r } ⟨rfl, rfl, rfl, le_rfl, rfl, fun ⟨_, h⟩ => ⟨hr, h⟩⟩ (.inl trivial)).moves

/-- Bytes after a SYNC that do not complete a frame can still become one. -/
theorem parseFrame_incomplete {bytes : List Byte} (h : parseFrame bytes = .incomplete) (t : Clock) :
    ReceiverWf (if bytes.isEmpty then .length t else .collect bytes t) := by
  cases bytes with
  | nil => trivial
  | cons len more =>
    unfold parseFrame at h
    dsimp only at h
    split at h
    · cases h
    · next hlen =>
      split at h
      · next hshort => exact ⟨len, more, rfl, by omega, by omega, hshort⟩
      · split at h <;> cases h

theorem scanBytes_moves (gap : Bool) (l : Link) : ∀ (bytes : List Byte) (skip : Nat) {s : State}, s.ready →
    Moves True .idle s .idle (scanBytes gap l skip bytes s) := by
  intro bytes
  induction bytes with
  | nil => intro skip s _; unfold scanBytes; exact .refl
  | cons b rest ih =>
    intro skip s hr
    have again : ∀ k, Moves True .idle s .idle (scanBytes gap l 0 rest (s.countError l k)) := fun k =>
      (s.countError_moves l k).trans (ih 0 hr)
    cases skip with
    | succ skip => unfold scanBytes; exact ih skip hr
    | zero =>
      unfold scanBytes
      split
      · split
        · next hp =>
          split
          · exact again _
          · exact s.setReceiver_moves l (parseFrame_incomplete hp s.clock)
        · exact again _
        · exact again _
        · exact (State.validFrame_moves hr l _).trans (ih _ ((s.validFrame_workKept l _).ready hr))
      · exact again _

theorem scanBytes_workKept (gap : Bool) (l : Link) (bytes : List Byte) (skip : Nat) (s : State) :
    WorkKept s (scanBytes gap l skip bytes s) := by
  induction bytes generalizing skip s with
  | nil => unfold scanBytes; exact .rfl'
  | cons b rest ih =>
    have again : ∀ k, WorkKept s (scanBytes gap l 0 rest (s.countError l k)) := fun k =>
      WorkKept.trans (t := s.countError l k) ⟨rfl, rfl, rfl, rfl⟩ (ih 0 _)
    cases skip with
    | succ skip => unfold scanBytes; exact ih skip s
    | zero =>
      unfold scanBytes
      split
      · split
        · split
          · exact again _
          · exact ⟨rfl, rfl, rfl, rfl⟩
        · exact again _
        · exact again _
        · exact (s.validFrame_workKept l _).trans (ih _ _)
      · exact again _

theorem State.discardPartial_moves (hr : s.ready) (l : Link) : Moves True .idle s .idle (s.discardPartial l) :=
  ((s.setReceiver_moves l (r := .hunt) trivial).trans (State.countError_moves _ l _)).trans (scanBytes_moves true l _ 0 hr)

theorem State.discardPartial_workKept (s : State) (l : Link) : WorkKept s (s.discardPartial l) :=
  WorkKept.trans (t := (s.hunt l).countError l .partialTimeouts) ⟨rfl, rfl, rfl, rfl⟩ (scanBytes_workKept ..)

theorem State.receiveByte_moves (hr : s.ready) (l : Link) (b : Byte) : Moves True .idle s .idle (s.receiveByte l b) :=
  (s.setReceiver_moves l (r := .hunt) trivial).trans (scanBytes_moves false l _ 0 hr)

/-! ## The transmitters -/

theorem State.send_moves (s : State) (l : Link) (frame : List Byte) : Moves True w s w (s.send l frame) :=
  (Move.unit l { s.link l with transmitter := .sending frame } ⟨rfl, rfl, rfl, le_rfl, rfl, id⟩ (.inl trivial)).moves

theorem WatchesWf.map {f : Watch → Watch} (h : WatchesWf s) (hl : ∀ x, (f x).link = x.link) (hc : ∀ x, (f x).cell = x.cell)
    (hp : ∀ x, (∀ n, x.pending = some n → 1 ≤ n ∧ n ≤ 255) → ∀ n, (f x).pending = some n → 1 ≤ n ∧ n ≤ 255) :
    WatchesWf { s with watches := s.watches.map f } := by
  obtain ⟨hcount, hdistinct, hpending⟩ := h
  refine ⟨fun l => ?_, ?_, ?_⟩
  · have : ((s.watches.map f).filter fun x => decide (x.link = l)).length = (s.watches.filter fun x => decide (x.link = l)).length := by
      rw [List.filter_map, List.length_map]
      congr 2
      funext x
      simp [hl]
    exact this.trans_le (hcount l)
  · exact List.pairwise_map.mpr (hdistinct.imp fun h => by simpa [hl, hc] using h)
  · intro x hx
    obtain ⟨y, hy, rfl⟩ := List.mem_map.mp hx
    exact hp y (hpending y hy)

theorem State.sendChanged_moves (s : State) (l : Link) (c : CellIx) : Moves True w s w (s.sendChanged l c) := by
  unfold State.sendChanged
  dsimp only
  refine ((s.accessCell_moves c).then (Move.watches _ fun hw => ?_)).trans (State.send_moves ..)
  refine WatchesWf.map hw (fun x => ?_) (fun x => ?_) fun x hx n hn => ?_
  · split <;> rfl
  · split <;> rfl
  · split at hn
    · cases hn
    · exact hx n hn

theorem UnitKept.of_reports {u : LinkUnit} (r : PendingReports) (k : LinkCounters) (hi : r.integrity = u.reports.integrity)
    (ha : r.arrivals = u.reports.arrivals) (hk : k = {} ∨ k = u.counters ∧ r.linkEntry = u.reports.linkEntry) :
    UnitKept u { u with reports := r, counters := k } := by
  refine ⟨rfl, rfl, rfl, le_rfl, hi, fun ⟨hr, hp, hc⟩ => ⟨hr, ha ▸ hp, ?_⟩⟩
  rcases hk with rfl | ⟨rfl, he⟩
  · simp
  · simpa only [he] using hc

theorem State.chooseReport_moves (s : State) (l : Link) : Moves True w s w (s.chooseReport l) := by
  have reports : ∀ (r : PendingReports) (k : LinkCounters) (frame : List Byte), r.integrity = (s.link l).reports.integrity →
      r.arrivals = (s.link l).reports.arrivals → (k = {} ∨ k = (s.link l).counters ∧ r.linkEntry = (s.link l).reports.linkEntry) →
      Moves True w s w ((s.withLink l { s.link l with reports := r, counters := k }).send l frame) := fun r k frame hi ha hk =>
    .head (Move.unit l _ (UnitKept.of_reports r k hi ha hk) (.inl trivial)) (State.send_moves ..)
  unfold State.chooseReport
  dsimp only
  split
  · exact reports { (s.link l).reports with sessionEnded := none } (s.link l).counters _ rfl rfl (.inr ⟨rfl, rfl⟩)
  · split
    · exact reports { (s.link l).reports with role := false } (s.link l).counters _ rfl rfl (.inr ⟨rfl, rfl⟩)
    · split
      · next hi => exact .head (Move.sendIntegrity trivial l hi) (State.send_moves ..)
      · split
        · exact reports { (s.link l).reports with linkEntry := none } {} _ rfl rfl (.inl rfl)
        · split
          · exact s.sendChanged_moves l _
          · split
            · exact (s.withdrawArrival_moves l _).trans (State.send_moves ..)
            · exact .refl

theorem State.choose_moves (s : State) (l : Link) : Moves True w s w (s.choose l) := by
  unfold State.choose
  split
  · next r rest hr =>
    refine .head (Move.unit l { s.link l with replies := rest } ⟨rfl, rfl, rfl, ?_, rfl, id⟩ (.inl trivial)) (State.send_moves ..)
    simp [hr]
  · exact s.chooseReport_moves l

/-! ## Expiries -/

theorem State.lapsePartial_moves (s : State) (l : Link) : Moves True .idle s .idle (s.lapsePartial l) := by
  unfold State.lapsePartial
  split
  · exact s.settle_moves.trans (State.discardPartial_moves s.settle_ready l)
  · exact .refl

theorem State.lapseLease_moves (s : State) (l : Link) : Moves host .idle s .idle (s.lapseLease l) := by
  unfold State.lapseLease
  dsimp only
  split
  · next h =>
    obtain ⟨hp, hd⟩ := State.inProgress_eq_false.mp (s.settle_ready.resolve_left (by simp [h.1]))
    exact s.settle_moves.trans (State.leaseTeardown_moves hp hd l)
  · exact .refl

theorem State.endWaitingTake_moves {q : QueueIx} {e : Queue} (hq : s.queue q = some e) (status : Status) (fields : List Byte) :
    Moves host w s w ((s.endWaitingTake e status fields).setQueue q { e with waitingTake := none }) := by
  unfold State.endWaitingTake
  cases ht : e.waitingTake with
  | none =>
    refine (Move.setQueue q { e with waitingTake := none } (by simp [hq, ht]) fun h => ?_).moves
    obtain ⟨h1, h64, hfit, hdrops, -⟩ := h.queue hq
    exact h.setQueue ⟨h1, h64, hfit, hdrops, fun x hx => by cases hx⟩ (.inl (by simp [hq]))
  | some x => exact (Move.endTake q e x ⟨replyKind 0x25, x.tag, status, fields⟩ hq ht rfl).moves

theorem State.dueTake_queue {q : QueueIx} {e : Queue} (h : s.dueTake q = some e) : s.queue q = some e := by
  unfold State.dueTake at h
  split at h
  · cases h
  · next hq =>
    split at h
    · split at h
      · cases h; exact hq
      · cases h
    · cases h

theorem State.lapseTake_moves (s : State) (q : QueueIx) : Moves host .idle s .idle (s.lapseTake q) := by
  have hm : Moves host .idle s .idle (if s.inProgress = true then s else s.settle) := by
    split
    · exact .refl
    · exact s.settle_moves
  unfold State.lapseTake
  generalize (if s.inProgress = true then s else s.settle) = t at hm
  dsimp only
  split
  · exact .refl
  · split
    · next e he => exact hm.trans (State.endWaitingTake_moves (State.dueTake_queue he) _ _)
    · exact .refl

theorem State.lapseHold_moves (s : State) (c : CellIx) : Moves host .idle s .idle (s.lapseHold c) := by
  unfold State.lapseHold
  dsimp only
  split
  · exact .refl
  · split
    · next h _ => exact s.settle_moves.then (Move.expire h)
    · exact .refl

theorem takeDrains_moves (n : Nat) {s : State} (h : s.resetStands = false) : Moves host .idle s .idle (takeDrains n s) := by
  induction n generalizing s with
  | zero => exact s.settle_moves
  | succ n ih =>
    unfold takeDrains
    split
    · exact s.settle_moves
    · obtain ⟨hp, hd⟩ := State.inProgress_eq_false.mp (State.settle_idle h)
      have hm : ∀ {host}, Moves host .idle s .idle s.settle.takeDrain := s.settle_moves.trans (State.takeDrain_moves hp hd)
      refine hm.trans (ih ?_)
      simpa [State.resetStands, (hm (host := False)).own.1] using h

theorem State.clearDrains_moves (s : State) : Moves host .idle s .idle s.clearDrains := by
  unfold State.clearDrains
  split
  · exact .refl
  · next h => exact takeDrains_moves _ (by simpa using h)

theorem State.takeDue_moves (s : State) : Moves True .idle s .idle s.takeDue := by
  unfold State.takeDue
  dsimp only
  exact ((((State.foldl_moves State.lapsePartial_moves _ _).trans (State.foldl_moves State.lapseLease_moves _ _)).trans
    (State.foldl_moves State.lapseTake_moves _ _)).trans (State.foldl_moves State.lapseHold_moves _ _)).trans
    (State.clearDrains_moves _)

end Sys2Proof.Machine
end

section
/-! PROOF. Every command, but for the two of the pins, and the passing of time as runs of moves. -/

set_option Elab.async false

namespace Sys2Proof.Machine

variable {s u : State} {l : Link} {tag : Tag}

/-- A command answers a next state, by moves. -/
def Runs (s : State) (r : Result) : Prop := ∃ t, r = .next t ∧ Moves True .idle s .idle t

theorem Runs.refl (s : State) : Runs s (.next s) := ⟨s, rfl, .refl⟩

theorem Moves.runs {t : State} (h : Moves True .idle s .idle t) : Runs s (.next t) := ⟨t, rfl, h⟩

/-! ## The taking of a request -/

theorem eq_cons_of_head? {α : Type} {xs : List α} {x : α} (h : xs.head? = some x) : xs = x :: xs.drop 1 := by
  cases xs with
  | nil => cases h
  | cons y ys => cases h; rfl

theorem chooseFrom_some {p : Link} {head : Link → Option Waiting} {x : Waiting} (h : chooseFrom p head = some (l, x)) : head l = some x := by
  unfold chooseFrom at h
  obtain ⟨i, -, hi⟩ := List.exists_of_findSome?_eq_some h
  obtain ⟨y, hy, he⟩ := Option.map_eq_some_iff.mp hi
  cases he; exact hy

theorem State.queueChoice_some {x : Waiting} (h : s.queueChoice = some (l, x)) : s.queueLine l = x :: (s.queueLine l).drop 1 :=
  eq_cons_of_head? (chooseFrom_some h)

theorem State.commandCell_runs {r : Request} {f : State → State}
    (hf : ∀ u : State, u.forwardPosts = [] → u.draining = none → u.drains = [] → Moves True ⟨some ⟨l, tag, true⟩, none⟩ u .idle (f u)) :
    Runs s (s.commandCell l tag r f) := by
  unfold State.commandCell
  split
  · next t ht =>
    unfold State.takeCell at ht
    split at ht
    · next h =>
      cases ht
      obtain ⟨hturn, hhead⟩ := h
      have hfree : s.settle.resetStands = false ∧ s.settle.drains = [] := by
        unfold State.cellTurn at hturn
        split at hturn
        · cases hturn
        · next h => simpa using h
      obtain ⟨hp, hd⟩ := State.inProgress_eq_false.mp (s.settle_ready.resolve_left (by simp [hfree.1]))
      refine ((s.settle_moves.then (Move.fromCellLine trivial l ⟨tag, r⟩ _ (eq_cons_of_head? hhead))).then
        (Move.tally _ (l + 1) _ _ _ _ _ rfl)).trans (hf _ ?_ ?_ ?_) |>.runs
      · exact hp
      · exact hd
      · exact hfree.2
    · cases ht
  · exact .refl s

theorem State.commandQueue_runs {r : Request} {f : State → State}
    (hf : ∀ u : State, Moves True ⟨some ⟨l, tag, true⟩, none⟩ u .idle (f u)) : Runs s (s.commandQueue l tag r f) := by
  unfold State.commandQueue
  split
  · next t ht =>
    unfold State.takeInside at ht
    split at ht
    · next h =>
      cases ht
      exact ((((Move.fromQueueLine trivial l ⟨tag, r⟩ _ (eq_cons_of_head? h.2)).moves.then (Move.carried trivial)).then
        (Move.tally _ _ (l + 1) _ _ _ _ rfl)).trans (hf _)).runs
    · cases ht
  · split
    · next t ht =>
      unfold State.takeQueue at ht
      split at ht
      · next h =>
        cases ht
        have hchoice : s.settle.queueChoice = some (l, ⟨tag, r⟩) := by
          unfold State.queueTurn at h
          split at h
          · cases h
          · exact h
        exact (((s.settle_moves.then (Move.fromQueueLine trivial l ⟨tag, r⟩ _ (State.queueChoice_some hchoice))).then
          (Move.tally _ _ (l + 1) _ _ _ _ rfl)).trans (hf _)).runs
      · cases ht
    · exact .refl s

theorem State.commandInOrder_runs {r : Request} {f : State → State}
    (hf : ∀ u : State, u.forwardPosts = [] → u.draining = none → Moves True ⟨some ⟨l, tag, true⟩, none⟩ u .idle (f u)) :
    Runs s (s.commandInOrder l tag r f) := by
  unfold State.commandInOrder
  split
  · next t ht =>
    unfold State.takeInOrder at ht
    split at ht
    · next h =>
      cases ht
      obtain ⟨hp, hd⟩ := State.inProgress_eq_false.mp (s.settle_ready.resolve_left (by simp [h.1]))
      exact ((s.settle_moves.then (Move.fromCellLine trivial l ⟨tag, r⟩ _ (eq_cons_of_head? h.2))).trans (hf _ hp hd)).runs
    · cases ht
  · exact .refl s

theorem State.commandAtArrival_runs {r : Request} {f : State → State}
    (hf : ∀ u : State, u.forwardPosts = [] → u.draining = none → u.verdict l r = .stay →
      Moves True ⟨some ⟨l, tag, (u.session l).isSome⟩, none⟩ u .idle (f u)) :
    Runs s (s.commandAtArrival l tag r f) := by
  unfold State.commandAtArrival
  split
  · next t ht =>
    unfold State.takeArrived at ht
    split at ht
    · next h =>
      cases ht
      obtain ⟨hr, hhead, hv⟩ := h
      obtain ⟨hp, hd⟩ := State.inProgress_eq_false.mp (s.settle_ready.resolve_left (by simp [hr]))
      have htaken := s.settle_moves.then (Move.fromInbox trivial l ⟨tag, r⟩ _ (eq_cons_of_head? hhead))
      have htake := hf (s.settle.updLink l fun u => { u with inbox := u.inbox.drop 1 }) hp hd hv
      exact ((htaken.trans htake).trans (State.route_moves _ l)).runs
    · cases ht
  · exact .refl s

/-! ## Requests at the cell-store arbiter -/

section
variable (hp : s.forwardPosts = []) (hd : s.draining = none)
include hp hd

theorem State.takeRead_moves (l : Link) (tag : Tag) (cell : Half) :
    Moves True ⟨some ⟨l, tag, true⟩, none⟩ s .idle (s.takeRead l tag cell) := by
  unfold State.takeRead
  dsimp only
  split
  · exact State.raise_moves_direct hp hd ⟨l, tag, _, _⟩ _
  · next c _ =>
    have hm := s.accessCell_moves (host := True) (w := ⟨some ⟨l, tag, true⟩, none⟩) c
    obtain ⟨kp, kd, -, -⟩ := s.accessCell_kept c
    cases ha : s.accessCell c with
    | mk code t =>
      rw [ha] at hm kp kd
      cases code with
      | some code => exact hm.trans (State.raise_moves_direct (kp.trans hp) (kd.trans hd) ⟨l, tag, _, _⟩ _)
      | none => exact .answer hm

theorem State.turnAside_moves (o : Faulting) (e : DwqEntry) (hl : e.link = o.link) (ht : e.tag = o.tag)
    (hheld : s.heldByOther o.link e.cell = true) : Moves True ⟨some ⟨o.link, o.tag, true⟩, none⟩ s .idle (s.turnAside o e) := by
  unfold State.turnAside
  split
  · exact State.raise_moves_direct hp hd o _
  · next hroom =>
    rw [← hl, ← ht]
    have : ∃ k, s.holderOf e.cell = some k := by
      unfold State.heldByOther at hheld
      split at hheld
      · next k hk => exact ⟨k, hk⟩
      · cases hheld
    obtain ⟨k, hk⟩ := this
    exact (Move.defer trivial e k (Nat.lt_of_not_le hroom) hk).moves

theorem State.takeWrite_moves (l : Link) (tag : Tag) (cell : Half) (v : Quad) :
    Moves True ⟨some ⟨l, tag, true⟩, none⟩ s .idle (s.takeWrite l tag cell v) := by
  unfold State.takeWrite
  dsimp only
  split
  · exact State.raise_moves_direct hp hd ⟨l, tag, _, _⟩ _
  · split
    · exact State.raise_moves_direct hp hd ⟨l, tag, _, _⟩ _
    · split
      · next h => exact State.turnAside_moves hp hd ⟨l, tag, _, _⟩ _ rfl rfl h
      · exact State.applyWrite_moves ..

theorem State.takeFetchAdd_moves (l : Link) (tag : Tag) (cell : Half) (v : Quad) :
    Moves True ⟨some ⟨l, tag, true⟩, none⟩ s .idle (s.takeFetchAdd l tag cell v) := by
  unfold State.takeFetchAdd
  dsimp only
  split
  · exact State.raise_moves_direct hp hd ⟨l, tag, _, _⟩ _
  · split
    · exact State.raise_moves_direct hp hd ⟨l, tag, _, _⟩ _
    · split
      · next h => exact State.turnAside_moves hp hd ⟨l, tag, _, _⟩ _ rfl rfl h
      · exact Work.after_none _ ▸ State.applyFetchAdd_moves hp hd ..

theorem State.takeSetCellClass_moves (l : Link) (tag : Tag) (cell : Half) (cls : CellClass) (owner : Half) :
    Moves True ⟨some ⟨l, tag, true⟩, none⟩ s .idle (s.takeSetCellClass l tag cell cls owner) := by
  unfold State.takeSetCellClass
  dsimp only
  split
  · exact State.raise_moves_direct hp hd ⟨l, tag, _, _⟩ _
  · next c _ =>
    split
    · exact State.raise_moves_direct hp hd ⟨l, tag, _, _⟩ _
    · split
      · exact State.raise_moves_direct hp hd ⟨l, tag, _, _⟩ _
      · exact .answer (b := true) (Move.cell trivial c { s.cell c with access := accessOf cls owner } rfl).moves

theorem State.takeReserve_moves (hn : s.drains = []) (l : Link) (tag : Tag) (cell : Half) :
    Moves True ⟨some ⟨l, tag, true⟩, none⟩ s .idle (s.takeReserve l tag cell) := by
  unfold State.takeReserve
  dsimp only
  split
  · exact State.raise_moves_direct hp hd ⟨l, tag, _, _⟩ _
  · next c _ =>
    split
    · exact State.raise_moves_direct hp hd ⟨l, tag, _, _⟩ _
    · have hm := s.accessCell_moves (host := True) (w := ⟨some ⟨l, tag, true⟩, none⟩) c
      obtain ⟨kp, kd, -, kn⟩ := s.accessCell_kept c
      cases ha : s.accessCell c with
      | mk code t =>
        rw [ha] at hm kp kd kn
        cases code with
        | some code => exact hm.trans (State.raise_moves_direct (kp.trans hp) (kd.trans hd) ⟨l, tag, _, _⟩ _)
        | none => exact .answer (hm.then (Move.arm trivial l c (kn.trans hn)))

theorem State.takeCommit_moves (l : Link) (tag : Tag) (cell : Half) (v : Quad) :
    Moves True ⟨some ⟨l, tag, true⟩, none⟩ s .idle (s.takeCommit l tag cell v) := by
  unfold State.takeCommit
  dsimp only
  split
  · exact State.raise_moves_direct hp hd ⟨l, tag, _, _⟩ _
  · split
    · exact State.raise_moves_direct hp hd ⟨l, tag, _, _⟩ _
    · split
      · next h => exact State.turnAside_moves hp hd ⟨l, tag, _, _⟩ _ rfl rfl h
      · exact Work.after_none _ ▸ State.judgeCommit_moves hp hd ..

theorem State.takeWatch_moves (l : Link) (tag : Tag) (cell : Half) :
    Moves True ⟨some ⟨l, tag, true⟩, none⟩ s .idle (s.takeWatch l tag cell) := by
  unfold State.takeWatch
  dsimp only
  split
  · exact State.raise_moves_direct hp hd ⟨l, tag, _, _⟩ _
  · next c _ =>
    split
    · exact State.raise_moves_direct hp hd ⟨l, tag, _, _⟩ _
    · next hnone =>
      split
      · exact State.raise_moves_direct hp hd ⟨l, tag, _, _⟩ _
      · next hroom =>
        have hm := s.accessCell_moves (host := True) (w := ⟨some ⟨l, tag, true⟩, none⟩) c
        obtain ⟨kp, kd, -, -⟩ := s.accessCell_kept c
        have hw : (s.accessCell c).2.watches = s.watches := by
          rcases s.accessCell_cases c with h | h | h <;> rw [h]
          rw [State.detect_eq]
        cases ha : s.accessCell c with
        | mk code t =>
          rw [ha] at hm kp kd hw
          cases code with
          | some code => exact hm.trans (State.raise_moves_direct (kp.trans hp) (kd.trans hd) ⟨l, tag, _, _⟩ _)
          | none =>
            refine .answer (hm.then (Move.watches _ fun ⟨hcount, hdistinct, hpending⟩ => ?_))
            dsimp only at hw
            refine ⟨fun k => ?_, List.pairwise_append.mpr ⟨hdistinct, List.pairwise_singleton .., fun x hx y hy => ?_⟩, fun x hx => ?_⟩
            · have hk := hcount k
              simp only [State.watchCount, List.filter_append, List.length_append, hw, Config.watchLimit] at hk hroom ⊢
              by_cases hkl : l = k
              · subst hkl; simp; omega
              · simp [hkl]; omega
            · rw [List.mem_singleton] at hy
              subst hy
              rw [hw] at hx
              simp only [State.watchOf, List.find?_isSome, not_exists, not_and] at hnone
              simpa using hnone x hx
            · rcases List.mem_append.mp hx with hx | hx
              · exact hpending x hx
              · rw [List.mem_singleton] at hx; subst hx; intro n hn; cases hn

/-! ## Requests in the link's order -/

theorem State.takeUnwatch_moves (l : Link) (tag : Tag) (cell : Half) :
    Moves True ⟨some ⟨l, tag, true⟩, none⟩ s .idle (s.takeUnwatch l tag cell) := by
  unfold State.takeUnwatch
  dsimp only
  split
  · exact State.raise_moves_direct hp hd ⟨l, tag, _, _⟩ _
  · split
    · exact State.raise_moves_direct hp hd ⟨l, tag, _, _⟩ _
    · refine .answer (b := true) (Move.watches _ fun ⟨hcount, hdistinct, hpending⟩ => ?_).moves
      exact ⟨fun k => (List.Sublist.length_le (List.filter_sublist.filter _)).trans (hcount k), hdistinct.filter _,
        fun x hx => hpending x (List.mem_of_mem_filter hx)⟩

end

theorem State.takeRelease_moves (s : State) (l : Link) (tag : Tag) :
    Moves True ⟨some ⟨l, tag, true⟩, none⟩ s .idle (s.takeRelease l tag) :=
  .answer (b := true) (Move.consume l).moves

/-! ## Requests at the queue arbiter -/

theorem putAt_putAt {α : Type} {n : Nat} (t : List (Fin n × α)) (i : Fin n) (x y : α) : putAt (putAt t i x) i y = putAt t i y := by
  induction t with
  | nil => simp [putAt]
  | cons e t ih =>
    obtain ⟨k, z⟩ := e
    by_cases h1 : i < k
    · simp [putAt, h1]
    · by_cases h2 : k = i
      · simp [putAt, h2]
      · simp [putAt, h1, h2, ih]

theorem dropAt_putAt {α : Type} {n : Nat} (t : List (Fin n × α)) (i : Fin n) (x : α) : dropAt (putAt t i x) i = dropAt t i := by
  induction t with
  | nil => simp [putAt, dropAt]
  | cons e t ih =>
    obtain ⟨k, z⟩ := e
    by_cases h1 : i < k
    · simp [putAt, dropAt, h1]
    · by_cases h2 : k = i
      · simp [putAt, dropAt, h2]
      · simpa [putAt, dropAt, h1, h2] using ih

theorem State.takeCreate_moves (s : State) (l : Link) (tag : Tag) (queue : Byte) (label : Half) (capacity : Byte) (overflow : Overflow)
    (mask : Byte) (intended : Half) (notify : Bool) :
    Moves True ⟨some ⟨l, tag, true⟩, none⟩ s .idle (s.takeCreate l tag queue label capacity overflow mask intended notify) := by
  have fault : ∀ fields f, Moves True ⟨some ⟨l, tag, true⟩, none⟩ s .idle (s.raiseInQueue ⟨l, tag, 0x20, fields⟩ f) := fun fields f =>
    s.raiseInQueue_moves ⟨l, tag, 0x20, fields⟩ f true
  unfold State.takeCreate
  dsimp only
  split
  · exact fault ..
  · next q _ =>
    split
    · exact fault ..
    · next hcap =>
      split
      · exact fault ..
      · split
        · exact fault ..
        · next hq =>
          refine .answer (b := true) (Move.setQueue q _ (by simp [hq]) fun h => h.setQueue ⟨?_, ?_, ?_, ?_, ?_⟩ (.inl ?_)).moves
          · have : capacity ≠ 0 := fun h => hcap (.inl h)
            have : capacity.toNat ≠ 0 := fun h => this (BitVec.eq_of_toNat_eq (by simpa using h))
            dsimp only; omega
          · simp only [not_or, not_lt, Config.capacityMax] at hcap; exact hcap.2
          · exact Nat.zero_le _
          · exact Nat.zero_le _
          · intro w hw; cases hw
          · exact Nat.zero_le _

theorem State.withdrawOwned_moves {host : Prop} {w : Work} (s : State) (q : QueueIx) (e : Queue) : Moves host w s w (s.withdrawOwned q e) := by
  unfold State.withdrawOwned
  split
  · exact s.withdrawArrival_moves _ q
  · exact .refl

theorem State.destroyQueue_moves {q : QueueIx} {e : Queue} {w : Work} (hq : s.queue q = some e) : Moves True w s w (s.destroyQueue q e) := by
  have hend := State.endWaitingTake_moves (host := True) (w := w) hq .gone []
  have hfree : (((s.endWaitingTake e .gone []).setQueue q { e with waitingTake := none }).withdrawOwned q e).queue q =
      some { e with waitingTake := none } := by
    unfold State.withdrawOwned
    split
    · exact State.setQueue_queue_same ..
    · exact State.setQueue_queue_same ..
  have := (hend.trans (State.withdrawOwned_moves _ q e)).then (Move.removeQueue trivial q (by rw [hfree]; rfl))
  convert this using 1
  unfold State.destroyQueue State.withdrawOwned
  cases e.owner <;> simp [State.removeQueue, State.setQueue, State.withdrawArrival, State.updReports, State.updLink, dropAt_putAt, State.link]

theorem State.takeDestroy_moves (s : State) (l : Link) (tag : Tag) (queue : Byte) :
    Moves True ⟨some ⟨l, tag, true⟩, none⟩ s .idle (s.takeDestroy l tag queue) := by
  have fault : ∀ fields f, Moves True ⟨some ⟨l, tag, true⟩, none⟩ s .idle (s.raiseInQueue ⟨l, tag, 0x21, fields⟩ f) := fun fields f =>
    s.raiseInQueue_moves ⟨l, tag, 0x21, fields⟩ f true
  unfold State.takeDestroy
  dsimp only
  split
  · exact fault ..
  · split
    · exact fault ..
    · split
      · exact fault ..
      · next hq => exact .answer (b := true) (State.destroyQueue_moves hq)

theorem State.takeBind_moves (s : State) (l : Link) (tag : Tag) (queue : Byte) :
    Moves True ⟨some ⟨l, tag, true⟩, none⟩ s .idle (s.takeBind l tag queue) := by
  have fault : ∀ fields f, Moves True ⟨some ⟨l, tag, true⟩, none⟩ s .idle (s.raiseInQueue ⟨l, tag, 0x22, fields⟩ f) := fun fields f =>
    s.raiseInQueue_moves ⟨l, tag, 0x22, fields⟩ f true
  unfold State.takeBind
  dsimp only
  split
  · exact fault ..
  · next q _ =>
    split
    · exact fault ..
    · next e hq =>
      split
      · exact fault ..
      · next hfree =>
        split
        · refine .answer (b := true) ?_
          refine Moves.trans (Move.setQueue q { e with owner := some l } (by simp [hq]) fun h => ?_).moves ?_
          · obtain ⟨h1, h64, hfit, hdrops, htake⟩ := h.queue hq
            refine h.setQueue ⟨h1, h64, hfit, hdrops, fun x hx => ?_⟩ (.inl (by simp [hq]))
            rw [(htake x hx).1] at hfree; cases hfree
          · split
            · exact State.pendArrival_moves _ l q
            · exact .refl
        · exact fault ..

theorem State.ownedQueue_ok {queue : Byte} {q : QueueIx} {e : Queue} (h : s.ownedQueue l queue = .ok (q, e)) :
    s.queue q = some e ∧ e.owner = some l := by
  unfold State.ownedQueue at h
  split at h
  · cases h
  · split at h
    · cases h
    · next hq =>
      split at h
      · next ho => cases h; exact ⟨hq, ho⟩
      · cases h

theorem State.takeUnbind_moves (s : State) (l : Link) (tag : Tag) (queue : Byte) :
    Moves True ⟨some ⟨l, tag, true⟩, none⟩ s .idle (s.takeUnbind l tag queue) := by
  unfold State.takeUnbind
  split
  · exact s.raiseInQueue_moves ⟨l, tag, 0x23, _⟩ _ true
  · next q e he =>
    obtain ⟨hq, ho⟩ := State.ownedQueue_ok he
    dsimp only
    refine .answer (b := true) ?_
    have hend := State.endWaitingTake_moves (host := True) (w := ⟨some ⟨l, tag, true⟩, none⟩) hq .cancelled []
    have hnow : (((s.endWaitingTake e .cancelled []).setQueue q { e with waitingTake := none }).withdrawOwned q e).queue q =
        some { e with waitingTake := none } := by
      unfold State.withdrawOwned; rw [ho]; exact State.setQueue_queue_same ..
    have := (hend.trans (State.withdrawOwned_moves _ q e)).then
      (Move.setQueue q { e with owner := none, waitingTake := none } (by rw [hnow]; rfl) fun h => ?_)
    · convert this using 1
      unfold State.withdrawOwned
      rw [ho]
      simp [State.setQueue, State.withdrawArrival, State.updReports, State.updLink, putAt_putAt, State.link]
    · obtain ⟨h1, h64, hfit, hdrops, -⟩ := h.queue hnow
      exact h.setQueue ⟨h1, h64, hfit, hdrops, fun x hx => by cases hx⟩ (.inl (by simp [hnow]))

theorem State.takePost_moves (s : State) (l : Link) (tag : Tag) (queue : Byte) (urgent : Bool) (payload : List Byte) :
    Moves True ⟨some ⟨l, tag, true⟩, none⟩ s .idle (s.takePost l tag queue urgent payload) := by
  have fault : ∀ (t : State) fields f, Moves True ⟨some ⟨l, tag, true⟩, none⟩ t .idle (t.raiseInQueue ⟨l, tag, 0x24, fields⟩ f) :=
    fun t fields f => t.raiseInQueue_moves ⟨l, tag, 0x24, fields⟩ f true
  unfold State.takePost
  dsimp only
  split
  · exact fault ..
  · next q _ =>
    split
    · exact fault ..
    · next e hq =>
      split
      · exact fault ..
      · have hm := State.placeMessage_moves (host := True) (w := ⟨some ⟨l, tag, true⟩, none⟩) hq
          ⟨countByte l.val, s.hostId l, s.clock, urgent, payload⟩
        generalize s.placeMessage q e ⟨countByte l.val, s.hostId l, s.clock, urgent, payload⟩ = p at hm
        obtain ⟨placed, t⟩ := p
        cases placed with
        | handed => exact .answer hm
        | stored dropped => exact .answer hm
        | queueFull capacity => exact hm.trans (fault ..)
        | poolEmpty => exact hm.trans (fault ..)

theorem headMessage_none {ms : List Message} (h : headMessage ms = none) : ms = [] := by
  unfold headMessage at h
  split at h
  · cases h
  · exact List.head?_eq_none_iff.mp h

theorem dropHead_length_le (ms : List Message) : (dropHead ms).length ≤ ms.length := by
  unfold dropHead
  split
  · exact List.length_eraseP_le
  · rw [List.length_drop]; omega

theorem State.removeHead_moves {w : Work} {q : QueueIx} {e : Queue} {m : Message} (hq : s.queue q = some e) (hm : headMessage e.messages = some m) :
    Moves True w s w (s.removeHead l q e) := by
  unfold State.removeHead
  dsimp only
  refine Moves.trans (Move.setQueue q { e with messages := dropHead e.messages } (by simp [hq]) fun h => ?_).moves ?_
  · have hle := dropHead_length_le e.messages
    obtain ⟨h1, h64, hfit, hdrops, htake⟩ := h.queue hq
    refine h.setQueue ⟨h1, h64, hle.trans hfit, hdrops, fun x hx => ?_⟩ (.inl (by simpa [hq] using hle))
    rw [(htake x hx).2] at hm; cases hm
  · split
    · exact State.withdrawArrival_moves ..
    · exact .refl

theorem State.takeTake_moves (s : State) (l : Link) (tag : Tag) (queue : Byte) (wait : Half) :
    Moves True ⟨some ⟨l, tag, true⟩, none⟩ s .idle (s.takeTake l tag queue wait) := by
  unfold State.takeTake
  dsimp only
  split
  · exact s.raiseInQueue_moves ⟨l, tag, 0x25, _⟩ _ true
  · next q e he =>
    obtain ⟨hq, ho⟩ := State.ownedQueue_ok he
    split
    · next m hm => exact .answer (b := true) (State.removeHead_moves hq hm)
    · next hm =>
      split
      · exact State.answer_moves ..
      · split
        · next ht => exact (Move.startTake trivial q e ⟨l, tag, later s.clock wait.toNat⟩ hq ht ho (headMessage_none hm)).moves
        · exact s.raiseInQueue_moves ⟨l, tag, 0x25, _⟩ _ true

theorem State.takePeek_moves (s : State) (l : Link) (tag : Tag) (queue : Byte) :
    Moves True ⟨some ⟨l, tag, true⟩, none⟩ s .idle (s.takePeek l tag queue) := by
  unfold State.takePeek
  split
  · exact s.raiseInQueue_moves ⟨l, tag, 0x26, _⟩ _ true
  · split <;> exact State.answer_moves ..

theorem State.takeQueryQueue_moves (s : State) (l : Link) (tag : Tag) (queue : Byte) :
    Moves True ⟨some ⟨l, tag, true⟩, none⟩ s .idle (s.takeQueryQueue l tag queue) := by
  unfold State.takeQueryQueue
  split
  · exact s.raiseInQueue_moves ⟨l, tag, 0x27, _⟩ _ true
  · exact State.answer_moves ..

/-! ## Requests at arrival -/

theorem State.candidate_eligible {k : Link} (h : s.candidate l = some k) : s.eligible k = true := (State.candidate_some h).2.1

theorem State.attached_session (h : s.attached l = true) : (s.session l).isSome = true := by
  unfold State.attached at h
  split at h
  · next x hx => simp [hx]
  · cases h

theorem leaseDeadline_none_iff (now : Clock) (period : Byte) : leaseDeadline now period = none ↔ period = 0 := by
  unfold leaseDeadline; split <;> simp_all

section
variable (hp : s.forwardPosts = []) (hd : s.draining = none)
include hp hd

theorem State.takeYield_moves (l : Link) (tag : Tag) (target : Byte) :
    Moves True ⟨some ⟨l, tag, true⟩, none⟩ s .idle (s.takeYield l tag target) := by
  have fault : ∀ f, Moves True ⟨some ⟨l, tag, true⟩, none⟩ s .idle (s.raise ⟨l, tag, 0x33, [0]⟩ f none) := fun f =>
    State.raise_moves_direct hp hd ⟨l, tag, 0x33, [0]⟩ f
  unfold State.takeYield
  dsimp only
  split
  · split
    · exact fault _
    · next hadm =>
      split
      · exact fault _
      · next k hk =>
        have : s.vacateAdmin l = s.changeAdmin (some k) := by
          rw [State.vacateAdmin, if_pos (not_not.mp hadm), hk]
        rw [this]
        exact .answer (b := true) (Move.changeAdmin trivial k (State.candidate_eligible hk)).moves
  · split
    · exact fault _
    · next k _ =>
      split
      · exact fault _
      · split
        · exact State.answer_moves ..
        · split
          · next hk => exact .answer (b := true) (Move.changeAdmin trivial k hk).moves
          · exact fault _

theorem State.takeConfigure_moves (l : Link) (tag : Tag) (threshold limit : Byte) (label : Half) :
    Moves True ⟨some ⟨l, tag, true⟩, none⟩ s .idle (s.takeConfigure l tag threshold limit label) := by
  have fault : ∀ fields f, Moves True ⟨some ⟨l, tag, true⟩, none⟩ s .idle (s.raise ⟨l, tag, 0x34, fields⟩ f none) := fun fields f =>
    State.raise_moves_direct hp hd ⟨l, tag, 0x34, fields⟩ f
  unfold State.takeConfigure
  dsimp only
  split
  · exact fault ..
  · next hthreshold =>
    split
    · exact fault ..
    · next hlimit =>
      split
      · exact fault ..
      · refine .answer (b := true) (Move.config trivial ⟨threshold.toNat, limit.toNat, label⟩ (Nat.le_of_not_lt hthreshold) ?_ ?_).moves
        · have : limit.toNat ≠ 0 := fun h => hlimit (BitVec.eq_of_toNat_eq (by simpa using h))
          dsimp only; omega
        · have := limit.isLt; dsimp only; omega

theorem State.takeHubReset_moves (l : Link) (tag : Tag) (scope : Scope) :
    Moves True ⟨some ⟨l, tag, true⟩, none⟩ s .idle (s.takeHubReset l tag scope) := by
  unfold State.takeHubReset
  split
  · exact State.raise_moves_direct hp hd ⟨l, tag, _, _⟩ _
  · exact (State.answer_moves ..).then (Move.request trivial _)

theorem State.takeSetForward_moves (l : Link) (tag : Tag) (queue : Byte) :
    Moves True ⟨some ⟨l, tag, true⟩, none⟩ s .idle (s.takeSetForward l tag queue) := by
  have set : ∀ q : Option QueueIx, (∀ k, q = some k → (s.queue k).isSome = true) →
      Moves True ⟨some ⟨l, tag, true⟩, none⟩ s .idle (s.designate l tag q) := fun q hq =>
    .answer (b := true) (Move.record l { s.faultRecord l with designation := q } ⟨id, fun k hk => .inr (hq k hk)⟩).moves
  unfold State.takeSetForward
  dsimp only
  split
  · exact set none fun k hk => by cases hk
  · split
    · exact State.raise_moves_direct hp hd ⟨l, tag, _, _⟩ _
    · split
      · exact State.raise_moves_direct hp hd ⟨l, tag, _, _⟩ _
      · next hq => exact set (some _) fun k hk => by cases hk; simp [hq]

theorem State.takeOpen_moves (hostId : Half) (eligible : Bool) (period : Half)
    (hv : s.verdict l (.openSession hostId eligible period) = .stay) :
    Moves True ⟨some ⟨l, tag, (s.session l).isSome⟩, none⟩ s .idle (s.takeOpen l tag hostId eligible period) := by
  unfold State.takeOpen
  split
  · next ha =>
    rw [State.attached_session ha]
    exact State.raise_moves_direct hp hd ⟨l, tag, _, _⟩ _
  · next ha =>
    have hx : s.session l = none := by
      unfold State.verdict at hv
      unfold State.attached at ha
      cases hx : s.session l with
      | none => rfl
      | some x => cases hph : x.phase <;> simp [hx, hph, isPing] at hv ha
    split
    · exact State.answer_moves ..
    · split
      · exact State.answer_moves ..
      · next hid =>
        split
        · exact State.answer_moves ..
        · split
          · exact State.answer_moves ..
          · next hnew =>
            unfold State.acceptOpen
            dsimp only
            refine .answer (b := (s.session l).isSome) ?_
            have hclear : Moves True ⟨some ⟨l, tag, (s.session l).isSome⟩, none⟩ s ⟨some ⟨l, tag, (s.session l).isSome⟩, none⟩
                ((s.setEntry l {}).setFaultRecord l {}) :=
              (Move.freshEntry trivial l hx).moves.then (Move.record l {} ⟨fun _ => rfl, fun q h => by cases h⟩)
            exact hclear.then (Move.attach trivial l
              ⟨.attached, hostId, eligible, period.setWidth 8, leaseDeadline s.clock (period.setWidth 8)⟩ hx hid hnew
              (leaseDeadline_none_iff ..) rfl)

end

theorem State.takeSetPolicy_moves (s : State) (l : Link) (tag : Tag) (b : Bool) (cls : FaultClass) (policy : FaultPolicy) :
    Moves True ⟨some ⟨l, tag, b⟩, none⟩ s .idle (s.takeSetPolicy l tag cls policy) := by
  unfold State.takeSetPolicy
  split
  · exact s.refuseForm_moves ..
  · next h =>
    refine .answer (b := b) (Move.record l { s.faultRecord l with policies := setAt _ (classIndex cls) policy } ⟨fun hf => ?_, fun _ => .inl⟩).moves
    dsimp only
    rw [getAt_setAt]
    split
    · next hc =>
      have : cls = .form := by revert hc; cases cls <;> decide
      by_contra hne
      exact h ⟨this, hne⟩
    · exact hf

theorem State.takeClearFaults_moves (s : State) (l : Link) (tag : Tag) (b : Bool) :
    Moves True ⟨some ⟨l, tag, b⟩, none⟩ s .idle (s.takeClearFaults l tag) :=
  .answer (b := b) (Move.record l { s.faultRecord l with occurred := Vector.replicate 6 false, lost := false } ⟨id, fun _ => .inl⟩).moves

theorem State.takeClose_moves (ha : s.attached l = true) (tag : Tag) (b : Bool) :
    Moves True ⟨some ⟨l, tag, b⟩, none⟩ s .idle (s.takeClose l) := by
  have := State.attached_session ha
  unfold State.takeClose
  split
  · next h => simp [h] at this
  · next x hx => exact (Move.closing trivial l x tag b hx).moves

theorem State.takeQuerySession_moves (ha : s.attached l = true) (tag : Tag) (b : Bool) :
    Moves True ⟨some ⟨l, tag, b⟩, none⟩ s .idle (s.takeQuerySession l tag) := by
  have := State.attached_session ha
  unfold State.takeQuerySession
  split
  · next h => simp [h] at this
  · exact State.answer_moves ..

/-! ## All commands -/

/-- A command at arrival of a request that only an ATTACHED session has taken there. -/
theorem State.commandAtArrival_runs_of_attached {r : Request} {f : State → State} (hopen : isOpen r = false) (hping : isPing r = false)
    (hf : ∀ u : State, u.forwardPosts = [] → u.draining = none → u.attached l = true →
      Moves True ⟨some ⟨l, tag, true⟩, none⟩ u .idle (f u)) : Runs s (s.commandAtArrival l tag r f) :=
  State.commandAtArrival_runs fun u hp hd hv => by
    have ha := State.attached_of_stays hopen hping hv
    rw [State.attached_session ha]
    exact hf u hp hd ha

theorem State.upset_version (x : Cell) : x.upset.version = x.version := by unfold Cell.upset; split <;> rfl

/-- Every command but POWER_ON and RSTN_ASSERTED is a run of moves. -/
theorem exec_runs (c : Instr) (s : State) (hon : ∀ rate, c ≠ .powerOn rate) (hoff : c ≠ .rstnAsserted) : Runs s (exec c s) := by
  cases c with
  | powerOn rate => exact absurd rfl (hon rate)
  | rstnAsserted => exact absurd rfl hoff
  | resetComplete =>
    show Runs s (execResetComplete s)
    unfold execResetComplete
    split
    · exact (Move.tally _ _ _ _ _ _ _ rfl).moves.runs
    · exact .refl s
  | storageUpset cell =>
    show Runs s (execStorageUpset cell s)
    have hseed : Moves True .idle s .idle { s with freeSeed := s.freeSeed + 1 } := (Move.tally _ _ _ _ _ _ _ rfl).moves
    unfold execStorageUpset
    split
    · split
      · dsimp only
        split
        · exact (hseed.then (Move.cell trivial cell _ (State.upset_version _))).runs
        · exact hseed.runs
      · exact (Move.cell trivial cell _ (State.upset_version _)).moves.runs
    · exact .refl s
  | lineByteArrival link byte =>
    show Runs s (execLineByteArrival link byte s)
    unfold execLineByteArrival
    split
    · dsimp only
      split
      · exact ((s.settle_moves.trans (State.discardPartial_moves s.settle_ready link)).trans
          (State.receiveByte_moves ((s.settle.discardPartial_workKept link).ready s.settle_ready) link byte)).runs
      · exact (s.settle_moves.trans (State.receiveByte_moves s.settle_ready link byte)).runs
    · exact .refl s
  | partialTimeout link => exact (s.lapsePartial_moves link).runs
  | resync link =>
    show Runs s (execResync link s)
    unfold execResync
    split
    · have hready : ((s.settle.renewLease link).hunt link).ready := by
        have : WorkKept s.settle ((s.settle.renewLease link).hunt link) :=
          (s.settle.renewLease_workKept link).trans ⟨rfl, rfl, rfl, rfl⟩
        exact this.ready s.settle_ready
      exact (((s.settle_moves.then (Move.renew trivial link)).trans (State.setReceiver_moves _ link (r := .hunt) trivial)).trans
        (State.takeResync_moves hready link)).runs
    · exact .refl s
  | openSession link tag hostId eligible period =>
    exact State.commandAtArrival_runs fun u hp hd hv => State.takeOpen_moves hp hd hostId eligible period hv
  | closeSession link tag =>
    exact State.commandAtArrival_runs_of_attached rfl rfl fun u _ _ ha => State.takeClose_moves ha tag true
  | ping link tag echo => exact State.commandAtArrival_runs fun u _ _ _ => State.answer_moves ..
  | querySession link tag =>
    exact State.commandAtArrival_runs_of_attached rfl rfl fun u _ _ ha => State.takeQuerySession_moves ha tag true
  | read link tag cell => exact State.commandCell_runs fun u hp hd _ => State.takeRead_moves hp hd ..
  | write link tag cell value => exact State.commandCell_runs fun u hp hd _ => State.takeWrite_moves hp hd ..
  | fetchAdd link tag cell delta => exact State.commandCell_runs fun u hp hd _ => State.takeFetchAdd_moves hp hd ..
  | setCellClass link tag cell cls owner => exact State.commandCell_runs fun u hp hd _ => State.takeSetCellClass_moves hp hd ..
  | reserve link tag cell => exact State.commandCell_runs fun u hp hd hn => State.takeReserve_moves hp hd hn ..
  | commit link tag cell value => exact State.commandCell_runs fun u hp hd _ => State.takeCommit_moves hp hd ..
  | watch link tag cell => exact State.commandCell_runs fun u hp hd _ => State.takeWatch_moves hp hd ..
  | release link tag => exact State.commandInOrder_runs fun u _ _ => State.takeRelease_moves ..
  | unwatch link tag cell => exact State.commandInOrder_runs fun u hp hd => State.takeUnwatch_moves hp hd ..
  | createQueue => exact State.commandQueue_runs fun u => State.takeCreate_moves ..
  | destroyQueue => exact State.commandQueue_runs fun u => State.takeDestroy_moves ..
  | bind => exact State.commandQueue_runs fun u => State.takeBind_moves ..
  | unbind => exact State.commandQueue_runs fun u => State.takeUnbind_moves ..
  | post => exact State.commandQueue_runs fun u => State.takePost_moves ..
  | take => exact State.commandQueue_runs fun u => State.takeTake_moves ..
  | peek => exact State.commandQueue_runs fun u => State.takePeek_moves ..
  | queryQueue => exact State.commandQueue_runs fun u => State.takeQueryQueue_moves ..
  | forwardPost =>
    show Runs s (execForwardPost s)
    unfold execForwardPost
    split
    · exact .refl s
    · exact s.takeForwardPost_moves.runs
  | setPolicy => exact State.commandAtArrival_runs fun u _ _ _ => State.takeSetPolicy_moves ..
  | clearFaults => exact State.commandAtArrival_runs fun u _ _ _ => State.takeClearFaults_moves ..
  | setForward => exact State.commandAtArrival_runs_of_attached rfl rfl fun u hp hd _ => State.takeSetForward_moves hp hd ..
  | yieldAdmin => exact State.commandAtArrival_runs_of_attached rfl rfl fun u hp hd _ => State.takeYield_moves hp hd ..
  | configure => exact State.commandAtArrival_runs_of_attached rfl rfl fun u hp hd _ => State.takeConfigure_moves hp hd ..
  | hubReset => exact State.commandAtArrival_runs_of_attached rfl rfl fun u hp hd _ => State.takeHubReset_moves hp hd ..
  | queryHub => exact State.commandAtArrival_runs fun u _ _ _ => State.answer_moves ..
  | drain =>
    show Runs s (execDrain s)
    unfold execDrain
    split
    · exact .refl s
    · next hr =>
      split
      · next h =>
        have hp : s.forwardPosts = [] := by simp at h; exact h.1
        exact (State.resumeDrain_moves hp).runs
      · split
        · exact .refl s
        · obtain ⟨hp, hd⟩ := State.inProgress_eq_false.mp (State.settle_idle (by simpa using hr))
          exact (s.settle_moves.trans (State.takeDrain_moves hp hd)).runs
  | holdExpiry cell => exact (s.lapseHold_moves cell).runs
  | waitingTakeExpiry queue => exact (s.lapseTake_moves queue).runs
  | leaseExpiry link => exact (s.lapseLease_moves link).runs
  | cleanTeardown link =>
    show Runs s (execCleanTeardown link s)
    unfold execCleanTeardown
    split
    · exact .refl s
    · dsimp only
      split
      · next tag h => exact (s.finishOperation_moves.trans (State.cleanTeardown_moves h)).runs
      · exact .refl s
  | transmitterChoice link =>
    show Runs s (execTransmitterChoice link s)
    unfold execTransmitterChoice
    split
    · split
      · exact (s.choose_moves link).runs
      · exact (s.settle_moves.trans (State.choose_moves _ link)).runs
    · exact .refl s
  | frameSent link =>
    show Runs s (execFrameSent link s)
    unfold execFrameSent
    split
    · exact .refl s
    · have hsent : Moves True .idle s .idle (s.updLink link fun u => { u with transmitter := .idle }) :=
        (Move.unit link { s.link link with transmitter := .idle } ⟨rfl, rfl, rfl, le_rfl, rfl, id⟩ (.inl trivial)).moves
      dsimp only
      split
      · split
        · exact (hsent.then (Move.beginReset trivial _)).runs
        · exact hsent.runs
      · exact hsent.runs

/-! ## Steps -/

/-- What every move keeps, and every power-on state has, every step keeps: a step is a run of moves, then perhaps the clock's count, or a power-on state. -/
theorem step_keeps {P : Work → State → Prop} (hmove : ∀ {w s w' t}, Move True w s w' t → P w s → P w' t)
    (hpending : ∀ (s : State) (cs : List Instr), P .idle s → P .idle { s with pending := cs })
    (hon : ∀ (s : State) (on : Bool) (rate : LineRate),
      P .idle { State.reset with rstn := on, lineRate := rate, pending := s.pending, freeSeed := s.freeSeed })
    (hcount : ∀ s u : State, u = s.takeDue → P .idle u → P .idle u.count) {s t : State} (hs : P .idle s) (h : step s = .next t) :
    P .idle t := by
  unfold step at h
  split at h
  · cases h
    unfold State.tick
    split
    · exact hcount s _ rfl (s.takeDue_moves.keeps hmove hs)
    · exact hs
  · next c rest _ =>
    have hs' := hpending s rest hs
    by_cases hc : ∃ rate, c = .powerOn rate
    · obtain ⟨rate, rfl⟩ := hc
      cases h
      exact hon { s with pending := rest } true rate
    · by_cases hc' : c = .rstnAsserted
      · subst hc'
        cases h
        exact hon { s with pending := rest } false s.lineRate
      · obtain ⟨u, hu, hm⟩ := exec_runs c { s with pending := rest } (fun rate hr => hc ⟨rate, hr⟩) hc'
        rw [hu] at h
        cases h
        exact hm.keeps hmove hs'

end Sys2Proof.Machine
end

section
/-! PROOF. The invariants of the cell store, the configuration, the watch table, the sessions and the role, kept by every step. -/

set_option Elab.async false

namespace Sys2Proof.Machine

variable {host : Prop} {w w' : Work} {s t : State}

/-! ## The cell store and the configuration -/

theorem Move.cellsWf (m : Move host w s w' t) (h : CellsWf s.cells) : CellsWf t.cells := by
  cases m with
  | cell _ c x _ => exact State.setCell_cellsWf h c x
  | detect c => exact State.detect_cellsWf h c
  | modify c v l => exact State.modify_cellsWf h c v l none
  | commit c v l => rw [State.consumeEntry_frame]; exact State.modify_cellsWf h c v l (some l)
  | consume l => rw [State.consumeEntry_frame]; exact h
  | expire x => rw [State.expireHold_frame]; exact h
  | arm _ l c => rw [State.armed_frame]; exact h
  | renew _ l => rw [State.renewLease_frame]; exact h
  | attach => split <;> [rw [State.changeAdmin_frame]; skip] <;> exact h
  | closing => rw [State.vacateAdmin_frame]; exact h
  | changeAdmin => rw [State.changeAdmin_frame]; exact h
  | detachClean => rw [State.detach_frame]; exact h
  | detachAbrupt => rw [State.emptyLink_frame, State.detach_frame]; exact h
  | beginReset _ scope => cases scope with
    | clear => exact cellsWf_nil
    | keepCells => exact h
  | _ => exact h

theorem hubWf_reset : HubWf State.reset := by unfold HubWf; decide

theorem Move.hubWf (m : Move host w s w' t) (h : HubWf s) : HubWf t := by
  cases m with
  | config _ c ht h1 h2 => exact ⟨ht, h1, h2, h.2.2.2⟩
  | detect c => rw [State.detect_eq]; exact ⟨h.1, h.2.1, h.2.2.1, saturate_le h.2.2.2⟩
  | sendIntegrity => exact ⟨h.1, h.2.1, h.2.2.1, Nat.zero_le _⟩
  | modify c v l => rw [State.modify_frame]; exact h
  | commit c v l => rw [State.consumeEntry_frame, State.modify_frame]; exact h
  | consume l => rw [State.consumeEntry_frame]; exact h
  | expire x => rw [State.expireHold_frame]; exact h
  | arm _ l c => rw [State.armed_frame]; exact h
  | renew _ l => rw [State.renewLease_frame]; exact h
  | attach => split <;> [rw [State.changeAdmin_frame]; skip] <;> exact h
  | closing => rw [State.vacateAdmin_frame]; exact h
  | changeAdmin => rw [State.changeAdmin_frame]; exact h
  | detachClean => rw [State.detach_frame]; exact h
  | detachAbrupt => rw [State.emptyLink_frame, State.detach_frame]; exact h
  | beginReset _ scope => cases scope with
    | clear => exact hubWf_reset
    | keepCells => exact ⟨h.1, h.2.1, h.2.2.1, Nat.zero_le _⟩
  | _ => exact h

/-! ## The watch table -/

theorem le_saturate_of_le {max k n : Nat} (h : k ≤ n) : k ≤ saturate max n := by
  unfold saturate; split <;> omega

/-- A modification counts on each watch record at most up to 255. -/
theorem WatchesWf.notify (h : WatchesWf s) (c : CellIx) (l : Link) : WatchesWf { s with watches := s.watches.map (notifyWatch c l) } := by
  refine h.map (fun x => ?_) (fun x => ?_) fun x hx n hn => ?_
  · unfold notifyWatch; split <;> rfl
  · unfold notifyWatch; split <;> rfl
  · unfold notifyWatch at hn
    split at hn
    · cases hp : x.pending with
      | none => simp [hp] at hn; omega
      | some k =>
        obtain ⟨h1, h255⟩ := hx k hp
        have hn : saturate Config.coalescedMax k = n := by simpa [hp] using hn
        exact hn ▸ ⟨le_saturate_of_le h1, saturate_le h255⟩
    · exact hx n hn

theorem Move.watchesWf (m : Move host w s w' t) (h : WatchesWf s) : WatchesWf t := by
  cases m with
  | watches ws hw => exact hw h
  | modify c v l => rw [State.modify_frame]; exact h.notify c l
  | commit c v l => rw [State.consumeEntry_frame, State.modify_frame]; exact h.notify c l
  | detect c => rw [State.detect_eq]; exact h
  | consume l => rw [State.consumeEntry_frame]; exact h
  | expire x => rw [State.expireHold_frame]; exact h
  | arm _ l c => rw [State.armed_frame]; exact h
  | renew _ l => rw [State.renewLease_frame]; exact h
  | attach => split <;> [rw [State.changeAdmin_frame]; skip] <;> exact h
  | closing => rw [State.vacateAdmin_frame]; exact h
  | changeAdmin => rw [State.changeAdmin_frame]; exact h
  | detachClean => rw [State.detach_frame]; exact h
  | detachAbrupt => rw [State.emptyLink_frame, State.detach_frame]; exact h
  | beginReset => exact ⟨fun _ => Nat.zero_le _, .nil, nofun⟩
  | _ => exact h

theorem watchesWf_reset : WatchesWf State.reset := ⟨fun _ => Nat.zero_le _, .nil, nofun⟩

/-! ## The sessions -/

/-- Well-formed sessions depend on the session table alone. -/
theorem SessionsWf.congr (h : SessionsWf s) (he : t.sessions = s.sessions) : SessionsWf t := by
  have hx : ∀ l, t.session l = s.session l := State.session_congr he
  obtain ⟨hid, hone⟩ := h
  exact ⟨fun l x hl => hid l x (hx l ▸ hl), fun k l x y hk hl => hone k l x y (hx k ▸ hk) (hx l ▸ hl)⟩

theorem sessionsWf_of_none (h : ∀ l, t.session l = none) : SessionsWf t :=
  ⟨fun l x hl => by simp [h l] at hl, fun k l x y hk => by simp [h k] at hk⟩

theorem State.session_setSession (s : State) (l k : Link) (x : Option Session) :
    (s.setSession l x).session k = if k = l then x else s.session k := getAt_setAt ..

/-- A session that keeps its host identity and its lease's presence. -/
theorem SessionsWf.update {l : Link} {x y : Session} (h : SessionsWf s) (hx : s.session l = some x) (hid : y.hostId = x.hostId)
    (hlease : y.deadline = none ↔ y.period = 0) : SessionsWf (s.setSession l (some y)) := by
  obtain ⟨hwf, hone⟩ := h
  have old : ∀ k z, (s.setSession l (some y)).session k = some z → ∃ z', s.session k = some z' ∧ z.hostId = z'.hostId := by
    intro k z hz
    rw [State.session_setSession] at hz
    split at hz
    · next hk => cases hz; exact ⟨x, hk ▸ hx, hid⟩
    · exact ⟨z, hz, rfl⟩
  refine ⟨fun k z hz => ⟨?_, ?_⟩, fun j k z z' hj hk hzz => ?_⟩
  · obtain ⟨z', hz', he⟩ := old k z hz
    exact he ▸ (hwf k z' hz').1
  · rw [State.session_setSession] at hz
    split at hz
    · cases hz; exact hlease
    · exact (hwf k z hz).2
  · obtain ⟨a, ha, hea⟩ := old j z hj
    obtain ⟨b, hb, heb⟩ := old k z' hk
    exact hone j k a b ha hb (hea.symm.trans (hzz.trans heb))

/-- A session with an identity that no other session has. -/
theorem SessionsWf.attach {l : Link} {x : Session} (h : SessionsWf s) (hid : x.hostId ≠ 0) (hnew : s.identityHolder l x.hostId = none)
    (hlease : x.deadline = none ↔ x.period = 0) : SessionsWf (s.setSession l (some x)) := by
  obtain ⟨hwf, hone⟩ := h
  have other : ∀ k y, k ≠ l → s.session k = some y → y.hostId ≠ x.hostId := by
    intro k y hk hy
    have := List.find?_eq_none.mp hnew k (mem_allLinks k)
    simpa [hk, hy] using this
  refine ⟨fun k y hy => ?_, fun j k y z hj hk he => ?_⟩
  · rw [State.session_setSession] at hy
    split at hy
    · cases hy; exact ⟨hid, hlease⟩
    · exact hwf k y hy
  · rw [State.session_setSession] at hj hk
    split at hj <;> split at hk
    · next hjl hkl => exact hjl.trans hkl.symm
    · next hkl => cases hj; exact absurd he.symm (other k z hkl hk)
    · next hjl _ => cases hk; exact absurd he (other j y hjl hj)
    · exact hone j k y z hj hk he

theorem SessionsWf.detach (h : SessionsWf s) (l : Link) : SessionsWf (s.setSession l none) := by
  obtain ⟨hwf, hone⟩ := h
  have old : ∀ k x, (s.setSession l none).session k = some x → s.session k = some x := by
    intro k x hx
    rw [State.session_setSession] at hx
    split at hx
    · cases hx
    · exact hx
  exact ⟨fun k x hx => hwf k x (old k x hx), fun j k x y hj hk => hone j k x y (old j x hj) (old k y hk)⟩

theorem Move.sessionsWf (m : Move host w s w' t) (h : SessionsWf s) : SessionsWf t := by
  cases m with
  | renew _ l =>
    unfold State.renewLease
    split
    · exact h
    · next x hx => exact h.update hx rfl (leaseDeadline_none_iff ..)
  | attach _ l x _ hid hnew hper =>
    have := h.attach hid hnew hper
    split
    · exact this.congr (by rw [State.changeAdmin_frame])
    · exact this
  | closing _ l x _ _ hx =>
    exact (h.update (y := { x with phase := .closing }) hx rfl (h.1 l x hx).2).congr (by rw [State.vacateAdmin_frame])
  | detachClean l => exact (h.detach l).congr (by rw [State.detach_frame]; rfl)
  | detachAbrupt l => exact (h.detach l).congr (by rw [State.emptyLink_frame, State.detach_frame]; rfl)
  | beginReset => exact sessionsWf_of_none fun l => getAt_replicate ..
  | detect c => exact h.congr (by rw [State.detect_eq])
  | consume l => exact h.congr (by rw [State.consumeEntry_frame])
  | modify c v l => exact h.congr (by rw [State.modify_frame])
  | commit c v l => exact h.congr (by rw [State.consumeEntry_frame, State.modify_frame])
  | expire x => exact h.congr (by rw [State.expireHold_frame])
  | arm _ l c => exact h.congr (by rw [State.armed_frame])
  | changeAdmin => exact h.congr (by rw [State.changeAdmin_frame])
  | _ => exact h

theorem sessionsWf_reset : SessionsWf State.reset := sessionsWf_of_none fun _ => getAt_replicate ..

end Sys2Proof.Machine

namespace Sys2Proof.Proofs

open Sys2Proof.Machine

/-- Settles O54: every move keeps the canonical form of the cell store and the ranges of the configuration. -/
theorem stepKeepsTheCellStoreAndConfiguration : Obligations.StepKeepsTheCellStoreAndConfiguration := fun _ _ hc hh h =>
  step_keeps (P := fun _ s => CellsWf s.cells ∧ HubWf s) (fun m ⟨hc, hh⟩ => ⟨m.cellsWf hc, m.hubWf hh⟩) (fun _ _ h => h)
    (fun _ _ _ => ⟨cellsWf_nil, hubWf_reset⟩) (fun _ _ _ h => h) ⟨hc, hh⟩ h

/-- Settles O56: every move keeps the limits of the watch table. -/
theorem stepKeepsTheWatchLimits : Obligations.StepKeepsTheWatchLimits := fun _ _ hw h =>
  step_keeps (P := fun _ s => WatchesWf s) (fun m hw => m.watchesWf hw) (fun _ _ h => h) (fun _ _ _ => watchesWf_reset) (fun _ _ _ h => h) hw h

/-- Settles O58: every move keeps the host identities unique and not 0. -/
theorem stepKeepsHostIdentitiesUnique : Obligations.StepKeepsHostIdentitiesUnique := fun _ _ hs h =>
  step_keeps (P := fun _ s => SessionsWf s) (fun m hs => m.sessionsWf hs) (fun _ _ h => h) (fun _ _ _ => sessionsWf_reset) (fun _ _ _ h => h) hs h

end Sys2Proof.Proofs
end

section
/-! PROOF. The administrative role: an eligible session has it while there is one, and the INTEGRITY report of unreported detections is pending for its holder
and no one else (R138, R141, R145). -/

set_option Elab.async false

namespace Sys2Proof.Machine

variable {host : Prop} {w w' : Work} {s t : State}

/-- The admin is eligible, and there is one while a session is eligible (R138). -/
def RoleFilled (s : State) : Prop :=
  (∀ a, s.admin = some a → s.eligible a = true) ∧ (s.admin = none → ∀ l, s.eligible l = false)

/-- An INTEGRITY report is pending for no one but the admin, and for the admin while detections are unreported (R141, R145). -/
def RoleReported (s : State) : Prop :=
  (∀ l, (s.link l).reports.integrity = true → s.admin = some l) ∧
    ∀ a, s.admin = some a → 0 < s.unreported → (s.link a).reports.integrity = true

theorem roleWf_iff : RoleWf s ↔ RoleFilled s ∧ RoleReported s := by
  unfold RoleWf RoleFilled RoleReported; tauto

/-! ## Who is eligible -/

theorem State.eligible_congr (h : t.session l = s.session l) : t.eligible l = s.eligible l := by
  simp [State.eligible, h]

theorem State.eligible_of_none {l : Link} (h : s.session l = none) : s.eligible l = false := by simp [State.eligible, h]

theorem State.eligible_of_some {l : Link} {x : Session} (h : s.session l = some x) :
    s.eligible l = (decide (x.phase = .attached) && x.eligible) := by simp [State.eligible, h]

theorem RoleFilled.congr (h : RoleFilled s) (ha : t.admin = s.admin) (he : ∀ l, t.eligible l = s.eligible l) : RoleFilled t := by
  obtain ⟨hsome, hnone⟩ := h
  exact ⟨fun a hk => he a ▸ hsome a (ha ▸ hk), fun hk l => he l ▸ hnone (ha ▸ hk) l⟩

theorem RoleFilled.of_sessions (h : RoleFilled s) (ha : t.admin = s.admin) (hs : t.sessions = s.sessions) : RoleFilled t :=
  h.congr ha fun l => State.eligible_congr (State.session_congr hs l)

/-- A session on `l` that is no longer eligible gives up the role, and an election fills it (R138). -/
theorem RoleFilled.vacate {l : Link} (h : RoleFilled s) (ha : t.admin = s.admin) (he : ∀ k, k ≠ l → t.eligible k = s.eligible k)
    (hl : t.eligible l = false) : RoleFilled (t.vacateAdmin l) := by
  obtain ⟨hsome, hnone⟩ := h
  have heq : ∀ k, (t.vacateAdmin l).eligible k = t.eligible k := fun k => State.eligible_congr (by rw [State.vacateAdmin_frame]; rfl)
  by_cases hadm : t.admin = some l
  · have hv := State.vacateAdmin_elected hadm
    refine ⟨fun a hk => ?_, fun hk k => ?_⟩
    · rw [heq]; exact (hv.winner a hk).2.1
    · rw [heq]
      by_cases hkl : k = l
      · exact hkl ▸ hl
      · exact hv.vacant hk k hkl
  · have hkeep : t.vacateAdmin l = t := by simp [State.vacateAdmin, hadm]
    rw [hkeep]
    refine ⟨fun a hk => ?_, fun hk k => ?_⟩
    · rw [he a fun e => hadm (e ▸ hk)]; exact hsome a (ha ▸ hk)
    · by_cases hkl : k = l
      · exact hkl ▸ hl
      · rw [he k hkl]; exact hnone (ha ▸ hk) k

theorem RoleFilled.changeAdmin {k : Link} (hk : s.eligible k = true) : RoleFilled (s.changeAdmin (some k)) := by
  rw [State.changeAdmin_frame]
  exact ⟨fun a ha => by cases ha; exact hk, nofun⟩

theorem State.eligible_setSession_ne {l k : Link} (h : k ≠ l) (x : Option Session) : (s.setSession l x).eligible k = s.eligible k :=
  State.eligible_congr (State.setSession_session_ne s h x)

theorem roleFilled_of_none (ha : t.admin = none) (h : ∀ l, t.session l = none) : RoleFilled t :=
  ⟨fun a hk => by simp [ha] at hk, fun _ l => State.eligible_of_none (h l)⟩

theorem RoleFilled.detach (h : RoleFilled s) (l : Link) : RoleFilled (s.detach l) :=
  h.vacate (l := l) rfl (fun _ hk => State.eligible_congr (getAt_setAt_ne _ hk _)) (State.eligible_of_none (getAt_setAt_same ..))

/-- A session that keeps its phase and its eligibility. -/
theorem RoleFilled.update {l : Link} {x y : Session} (h : RoleFilled s) (hx : s.session l = some x) (hp : y.phase = x.phase)
    (he : y.eligible = x.eligible) : RoleFilled (s.setSession l (some y)) := by
  refine h.congr rfl fun k => ?_
  by_cases hk : k = l
  · subst hk
    rw [State.eligible_of_some (State.setSession_session_same ..), State.eligible_of_some hx, hp, he]
  · exact State.eligible_setSession_ne hk _

theorem RoleFilled.attach {l : Link} {x : Session} (h : RoleFilled s) (hs : s.session l = none) (hp : x.phase = .attached) :
    RoleFilled (if x.eligible = true ∧ s.admin = none then (s.setSession l (some x)).changeAdmin (some l) else s.setSession l (some x)) := by
  have hl : (s.setSession l (some x)).eligible l = x.eligible := by
    rw [State.eligible_of_some (State.setSession_session_same ..), hp]; simp
  split
  · next hc => exact .changeAdmin (hl.trans hc.1)
  · next hc =>
    obtain ⟨hsome, hnone⟩ := h
    refine ⟨fun a ha => ?_, fun ha k => ?_⟩
    · have hal : a ≠ l := by
        rintro rfl
        have := hsome a ha
        rw [State.eligible_of_none hs] at this; cases this
      rw [State.eligible_setSession_ne hal]; exact hsome a ha
    · by_cases hk : k = l
      · subst hk
        rw [hl]
        cases hx : x.eligible with
        | false => rfl
        | true => exact absurd ⟨hx, ha⟩ hc
      · rw [State.eligible_setSession_ne hk]; exact hnone ha k

theorem Move.roleFilled (m : Move host w s w' t) (h : RoleFilled s) : RoleFilled t := by
  cases m with
  | renew _ l =>
    unfold State.renewLease
    split
    · exact h
    · next x hx => exact h.update hx rfl rfl
  | attach _ l x hs _ _ _ hp => exact h.attach hs hp
  | closing _ l x _ _ hx =>
    exact h.vacate (l := l) rfl (fun _ hk => State.eligible_setSession_ne hk _)
      (by rw [State.eligible_of_some (State.setSession_session_same ..)]; rfl)
  | changeAdmin _ k hk => exact .changeAdmin hk
  | detachClean l => exact h.detach l
  | detachAbrupt l => exact (h.detach l).of_sessions rfl rfl
  | beginReset => exact roleFilled_of_none rfl fun l => getAt_replicate ..
  | detect c => exact h.of_sessions (by rw [State.detect_eq]) (by rw [State.detect_eq])
  | consume l => exact h.of_sessions (by rw [State.consumeEntry_frame]) (by rw [State.consumeEntry_frame])
  | modify c v l => exact h.of_sessions (by rw [State.modify_frame]) (by rw [State.modify_frame])
  | commit c v l =>
    exact h.of_sessions (by rw [State.consumeEntry_frame, State.modify_frame]) (by rw [State.consumeEntry_frame, State.modify_frame])
  | expire x => exact h.of_sessions (by rw [State.expireHold_frame]) (by rw [State.expireHold_frame])
  | arm _ l c => exact h.of_sessions (by rw [State.armed_frame]) (by rw [State.armed_frame])
  | _ => exact h

/-! ## The INTEGRITY report -/

theorem RoleReported.congr (h : RoleReported s) (ha : t.admin = s.admin) (hu : t.unreported = s.unreported)
    (hi : ∀ l, (t.link l).reports.integrity = (s.link l).reports.integrity) : RoleReported t := by
  obtain ⟨honly, hpend⟩ := h
  exact ⟨fun l hl => ha ▸ honly l (hi l ▸ hl), fun a hk hp => hi a ▸ hpend a (ha ▸ hk) (hu ▸ hp)⟩

theorem RoleReported.of_links (h : RoleReported s) (ha : t.admin = s.admin) (hu : t.unreported = s.unreported) (hl : t.links = s.links) :
    RoleReported t := h.congr ha hu fun l => by simp [State.link, hl]

theorem RoleReported.withLink {l : Link} {u : LinkUnit} (h : RoleReported s) (hu : u.reports.integrity = (s.link l).reports.integrity) :
    RoleReported (s.withLink l u) := by
  refine h.congr rfl rfl fun k => ?_
  rw [State.withLink_link]; split
  · next hk => rw [hk]; exact hu
  · rfl

/-- The link of another than the admin may lose what is pending there. -/
theorem RoleReported.cleared {l : Link} (h : RoleReported s) (hl : s.admin ≠ some l) (ha : t.admin = s.admin) (hu : t.unreported = s.unreported)
    (hi : (t.link l).reports.integrity = false) (hk : ∀ k, k ≠ l → t.link k = s.link k) : RoleReported t := by
  refine h.congr ha hu fun k => ?_
  by_cases hkl : k = l
  · subst hkl
    cases hb : (s.link k).reports.integrity with
    | false => exact hi
    | true => exact absurd (h.1 k hb) hl
  · rw [hk k hkl]

/-- Who has an INTEGRITY report pending when the role has passed (R141). -/
theorem State.changeAdmin_integrity {s : State} {new : Option Link} (h : s.admin ≠ new) (k : Link) :
    ((s.changeAdmin new).link k).reports.integrity =
      if new = some k then (s.link k).reports.integrity || decide (0 < s.unreported)
      else if s.admin = some k then false else (s.link k).reports.integrity := by
  unfold State.changeAdmin
  rw [if_neg h]
  cases ho : s.admin with
  | none =>
    cases new with
    | none => exact absurd ho h
    | some g =>
      by_cases hu : 0 < s.unreported <;> by_cases hk : k = g <;>
        simp [hu, hk, eq_comm, State.pendRole, State.pendIntegrity, State.updReports, State.updLink, State.link, getAt_setAt]
  | some o =>
    have old : ∀ k, k ≠ o → (if s.attached o = true then (State.withdrawIntegrity { s with admin := new } o).pendRole o
        else State.withdrawIntegrity { s with admin := new } o).link k = s.link k := fun k hk => by
      split <;> simp [State.pendRole, State.withdrawIntegrity, State.updReports, State.updLink, State.link, getAt_setAt, hk]
    have same : ((if s.attached o = true then (State.withdrawIntegrity { s with admin := new } o).pendRole o
        else State.withdrawIntegrity { s with admin := new } o).link o).reports.integrity = false := by
      split <;> simp [State.pendRole, State.withdrawIntegrity, State.updReports]
    dsimp only
    generalize (if s.attached o = true then (State.withdrawIntegrity { s with admin := new } o).pendRole o
        else State.withdrawIntegrity { s with admin := new } o) = t at old same
    cases new with
    | none =>
      by_cases hk : k = o
      · subst hk; simp [same]
      · simp [old k hk, Ne.symm hk]
    | some g =>
      have hog : g ≠ o := fun e => h (e ▸ ho)
      by_cases hg : k = g
      · subst hg
        by_cases hu : 0 < s.unreported <;> simp [hu, State.pendRole, State.pendIntegrity, State.updReports, old k hog]
      · have hother : ∀ f : PendingReports → PendingReports, ∀ t : State, (t.updReports g f).link k = t.link k :=
          fun f t => State.updLink_link_ne t hg _
        have : ∀ t : State, (if 0 < s.unreported then (t.pendRole g).pendIntegrity g else t.pendRole g).link k = t.link k := fun t => by
          split <;> simp only [State.pendRole, State.pendIntegrity, hother]
        rw [this]
        by_cases hk : k = o
        · subst hk; simp [same, Ne.symm hg]
        · simp [old k hk, Ne.symm hk, Ne.symm hg]

theorem RoleReported.changeAdmin (h : RoleReported s) (new : Option Link) : RoleReported (s.changeAdmin new) := by
  by_cases hn : s.admin = new
  · rw [State.changeAdmin, if_pos hn]; exact h
  · have hadm : (s.changeAdmin new).admin = new := by rw [State.changeAdmin_frame]
    have hunr : (s.changeAdmin new).unreported = s.unreported := by rw [State.changeAdmin_frame]
    refine ⟨fun k hk => ?_, fun a ha hu => ?_⟩
    · rw [hadm]
      rw [State.changeAdmin_integrity hn] at hk
      by_cases hnk : new = some k
      · exact hnk
      · rw [if_neg hnk] at hk
        split at hk
        · cases hk
        · next ho => exact absurd (h.1 k hk) ho
    · rw [hadm] at ha
      rw [hunr] at hu
      rw [State.changeAdmin_integrity hn, if_pos ha]
      simp [hu]

theorem RoleReported.vacate (h : RoleReported s) (ha : t.admin = s.admin) (hu : t.unreported = s.unreported) (hl : t.links = s.links)
    (l : Link) : RoleReported (t.vacateAdmin l) := by
  have ht := h.of_links ha hu hl
  unfold State.vacateAdmin
  split
  · exact ht.changeAdmin _
  · exact ht

theorem RoleReported.detach (h : RoleReported s) (l : Link) : RoleReported (s.detach l) := by
  refine RoleReported.vacate h ?_ ?_ ?_ l <;> rfl

theorem RoleReported.detect (h : RoleReported s) (c : CellIx) : RoleReported (s.detect c) := by
  obtain ⟨honly, _⟩ := h
  rw [State.detect_eq]
  refine ⟨fun l hl => ?_, fun a ha _ => ?_⟩
  · cases hadm : s.admin with
    | none => simp only [hadm] at hl; exact absurd (honly l hl) (by simp [hadm])
    | some a =>
      by_cases hla : l = a
      · subst hla; rfl
      · simp only [hadm, State.link, getAt_setAt_ne _ hla] at hl
        exact absurd (honly l hl) (by simpa [hadm] using Ne.symm hla)
  · simp only at ha
    simp [ha, State.link]

theorem RoleReported.sendIntegrity {l : Link} (h : RoleReported s) (hl : (s.link l).reports.integrity = true) :
    RoleReported { s.withdrawIntegrity l with unreported := 0 } := by
  refine ⟨fun k hk => ?_, fun a _ hu => absurd hu (Nat.lt_irrefl 0)⟩
  by_cases hkl : k = l
  · exact hkl ▸ h.1 l hl
  · have hother : (s.withdrawIntegrity l).link k = s.link k := State.updLink_link_ne s hkl _
    exact h.1 k (hother ▸ hk)

theorem roleReported_of_none (ha : t.admin = none) (h : ∀ l, (t.link l).reports.integrity = false) : RoleReported t :=
  ⟨fun l hl => by simp [h l] at hl, fun a hk => by simp [ha] at hk⟩

theorem State.emptyLink_link_same (s : State) (l : Link) (k : LinkCounters) (ended : Option SessionEnded) (entry : Option LinkEntry) :
    (s.emptyLink l k ended entry).link l =
      { s.link l with
        tags := [], heldFrames := [], inbox := [], replies := [], counters := k
        reports := { sessionEnded := ended, linkEntry := entry } } := by
  simp [State.emptyLink, State.clearLink, State.updLink, State.link, State.setCellLine, State.setQueueLine]

theorem State.emptyLink_link_ne (s : State) {l j : Link} (h : j ≠ l) (k : LinkCounters) (ended : Option SessionEnded)
    (entry : Option LinkEntry) : (s.emptyLink l k ended entry).link j = s.link j := by
  simp [State.emptyLink, State.clearLink, State.updLink, State.link, State.setCellLine, State.setQueueLine, getAt_setAt, h]

theorem RoleReported.emptyLink {l : Link} (h : RoleReported s) (hl : s.admin ≠ some l) (k : LinkCounters) (ended : Option SessionEnded)
    (entry : Option LinkEntry) : RoleReported (s.emptyLink l k ended entry) :=
  h.cleared hl rfl rfl (by rw [State.emptyLink_link_same]) fun j hj => s.emptyLink_link_ne hj ..

theorem LinkUnit.takeHeldResync_integrity (u : LinkUnit) (back : Clock) : (u.resetBegun back).takeHeldResync.reports.integrity = false := by
  unfold LinkUnit.takeHeldResync; split <;> rfl

theorem Move.roleReported (m : Move host w s w' t) (hf : RoleFilled s) (h : RoleReported s) : RoleReported t := by
  cases m with
  | unit l u hu => exact h.withLink hu.integrity
  | accept | holdFrame | intoInbox | fromInbox => exact h.withLink rfl
  | answer l r => exact h.withLink (s := s) rfl
  | endTake q d x r => exact (h.of_links (t := s.setQueue q { d with waitingTake := none }) rfl rfl rfl).withLink rfl
  | detect c => exact h.detect c
  | attach =>
    split
    · exact RoleReported.changeAdmin (s := s.setSession _ _) (h.of_links rfl rfl rfl) _
    · exact h.of_links rfl rfl rfl
  | closing _ l => refine RoleReported.vacate h ?_ ?_ ?_ l <;> rfl
  | changeAdmin => exact h.changeAdmin _
  | detachClean l => exact h.detach l
  | detachAbrupt l => exact (h.detach l).emptyLink (State.vacateAdmin_admin_ne _ l) ..
  | emptyLink _ l k ended entry hx =>
    have hl : s.admin ≠ some l := fun ha => by
      have := hf.1 l ha
      rw [State.eligible_of_none hx] at this; cases this
    exact h.emptyLink hl ..
  | withdraw l p ha => exact h.cleared ha rfl rfl (by simp [State.updReports]) fun k hk => State.updLink_link_ne _ hk _
  | sendIntegrity _ l hl => exact h.sendIntegrity hl
  | beginReset =>
    refine roleReported_of_none rfl fun l => ?_
    simp only [State.link, State.beginReset, getAt_mapLinks]
    exact LinkUnit.takeHeldResync_integrity ..
  | consume l => rw [State.consumeEntry_frame]; exact h.of_links rfl rfl rfl
  | modify c v l => rw [State.modify_frame]; exact h.of_links rfl rfl rfl
  | commit c v l => rw [State.consumeEntry_frame, State.modify_frame]; exact h.of_links rfl rfl rfl
  | expire x => rw [State.expireHold_frame]; exact h.of_links rfl rfl rfl
  | arm _ l c => rw [State.armed_frame]; exact h.of_links rfl rfl rfl
  | renew _ l => rw [State.renewLease_frame]; exact h.of_links rfl rfl rfl
  | _ => exact h

theorem Move.roleWf (m : Move host w s w' t) (h : RoleWf s) : RoleWf t := by
  obtain ⟨hf, hr⟩ := roleWf_iff.mp h
  exact roleWf_iff.mpr ⟨m.roleFilled hf, m.roleReported hf hr⟩

theorem roleWf_reset : RoleWf State.reset :=
  roleWf_iff.mpr ⟨roleFilled_of_none rfl fun _ => getAt_replicate .., roleReported_of_none rfl fun l => by simp [State.link, State.reset]⟩

end Sys2Proof.Machine

namespace Sys2Proof.Proofs

open Sys2Proof.Machine

/-- Settles O59: every move keeps the role filled and its INTEGRITY report pending. -/
theorem stepKeepsTheRoleFilled : Obligations.StepKeepsTheRoleFilled := fun _ _ hr h =>
  step_keeps (P := fun _ s => RoleWf s) (fun m hr => m.roleWf hr) (fun _ _ h => h) (fun _ _ _ => roleWf_reset) (fun _ _ _ h => h) hr h

end Sys2Proof.Proofs
end

section
/-! PROOF. The queues and the fault records: capacities, the pool and the waiting takes, FORM's policy and the designations (R75, R76, R86, R90, R128, R131). -/

set_option Elab.async false

namespace Sys2Proof.Machine

variable {host : Prop} {w w' : Work} {s t : State}

/-! ## The descriptors -/

theorem QueueWf.withoutTake {d : Queue} (h : QueueWf d) : QueueWf { d with waitingTake := none } := by
  obtain ⟨h1, h64, hlen, hdrops, _⟩ := h
  exact ⟨h1, h64, hlen, hdrops, nofun⟩

theorem QueueWf.unbindFrom {d : Queue} (h : QueueWf d) (l : Link) : QueueWf (d.unbindFrom l) := by
  unfold Queue.unbindFrom
  split
  · obtain ⟨h1, h64, hlen, hdrops, _⟩ := h
    exact ⟨h1, h64, hlen, hdrops, nofun⟩
  · exact h

theorem Queue.unbindFrom_messages (l : Link) (d : Queue) : (d.unbindFrom l).messages = d.messages := by
  unfold Queue.unbindFrom; split <;> rfl

theorem QueuesWf.congr (h : QueuesWf s) (hq : t.queues = s.queues) : QueuesWf t := by
  unfold QueuesWf State.slotsUsed; rw [hq]; exact h

theorem QueuesWf.endTake {q : QueueIx} {d : Queue} (h : QueuesWf s) (hq : s.queue q = some d) :
    QueuesWf (s.setQueue q { d with waitingTake := none }) :=
  h.setQueue (h.queue hq).withoutTake (.inl (by simp [hq]))

theorem QueuesWf.startTake {q : QueueIx} {d : Queue} {x : WaitingTake} (h : QueuesWf s) (hq : s.queue q = some d) (ho : d.owner = some x.link)
    (hm : d.messages = []) : QueuesWf (s.setQueue q { d with waitingTake := some x }) := by
  obtain ⟨h1, h64, hlen, hdrops, _⟩ := h.queue hq
  refine h.setQueue ⟨h1, h64, hlen, hdrops, fun y hy => ?_⟩ (.inl (by simp [hq]))
  cases hy; exact ⟨ho, hm⟩

theorem QueuesWf.removeQueue (h : QueuesWf s) (q : QueueIx) : QueuesWf (s.removeQueue q) := by
  obtain ⟨hrise, hwf, hpool⟩ := h
  refine ⟨dropAt_rising hrise q, fun e he => hwf e (mem_dropAt he), le_trans ?_ hpool⟩
  exact ((List.filter_sublist).map _).sum_le_sum fun _ _ => Nat.zero_le _

theorem QueuesWf.detach (h : QueuesWf s) (l : Link) : QueuesWf (s.detach l) := by
  obtain ⟨hrise, hwf, hpool⟩ := h
  have hq : (s.detach l).queues = s.queues.map fun e : QueueIx × Queue => (e.1, e.2.unbindFrom l) := by rw [State.detach_frame]
  refine ⟨?_, fun e he => ?_, ?_⟩
  · rw [hq]; exact List.pairwise_map.mpr hrise
  · rw [hq] at he
    obtain ⟨e', he', rfl⟩ := List.mem_map.mp he
    exact (hwf e' he').unbindFrom l
  · simpa [State.slotsUsed, hq, Function.comp_def, Queue.unbindFrom_messages] using hpool

theorem queuesWf_of_nil (h : t.queues = []) : QueuesWf t := by
  simp [QueuesWf, State.slotsUsed, h]

theorem Move.queuesWf (m : Move host w s w' t) (h : QueuesWf s) : QueuesWf t := by
  cases m with
  | setQueue q d _ hd => exact hd h
  | endTake q d x r hq => exact (h.endTake hq).congr rfl
  | startTake _ q d x hq _ ho hm => exact h.startTake hq ho hm
  | removeQueue _ q => exact (h.removeQueue q).congr rfl
  | detachClean l => exact h.detach l
  | detachAbrupt l => exact (h.detach l).congr rfl
  | beginReset => exact queuesWf_of_nil rfl
  | detect c => exact h.congr (by rw [State.detect_eq])
  | consume l => exact h.congr (by rw [State.consumeEntry_frame])
  | modify c v l => exact h.congr (by rw [State.modify_frame])
  | commit c v l => exact h.congr (by rw [State.consumeEntry_frame, State.modify_frame])
  | expire x => exact h.congr (by rw [State.expireHold_frame])
  | arm _ l c => exact h.congr (by rw [State.armed_frame])
  | renew _ l => exact h.congr (by rw [State.renewLease_frame])
  | attach => exact h.congr (by split <;> [rw [State.changeAdmin_frame]; skip] <;> rfl)
  | closing => exact h.congr (by rw [State.vacateAdmin_frame]; rfl)
  | changeAdmin => exact h.congr (by rw [State.changeAdmin_frame])
  | _ => exact h

theorem queuesWf_reset : QueuesWf State.reset := queuesWf_of_nil rfl

/-! ## The fault records -/

/-- FORM's policy is REFUSE and the designation names no ABSENT queue: what FaultsWf says of one record. -/
def RecordWf (s : State) (r : FaultRecord) : Prop :=
  getAt r.policies (classIndex .form) = .refuse ∧ ∀ q, r.designation = some q → (s.queue q).isSome = true

theorem faultsWf_iff : FaultsWf s ↔ ∀ l, RecordWf s (s.faultRecord l) := Iff.rfl

theorem RecordWf.kept {r r' : FaultRecord} (h : RecordWf s r) (hr : RecordKept s r r') : RecordWf s r' := by
  obtain ⟨hform, hdes⟩ := h
  exact ⟨hr.form hform, fun q hq => (hr.designation q hq).elim (hdes q) id⟩

theorem RecordWf.congr {r : FaultRecord} (h : RecordWf s r) (hq : ∀ q, (s.queue q).isSome = true → (t.queue q).isSome = true) : RecordWf t r :=
  ⟨h.1, fun q hd => hq q (h.2 q hd)⟩

theorem recordWf_blank : RecordWf s {} := ⟨getAt_replicate .., nofun⟩

theorem FaultsWf.congr (h : FaultsWf s) (hf : t.faults = s.faults) (hq : ∀ q, (s.queue q).isSome = true → (t.queue q).isSome = true) :
    FaultsWf t := faultsWf_iff.mpr fun l => by
  rw [State.faultRecord_congr hf]; exact RecordWf.congr (h l) hq

theorem FaultsWf.of_queues (h : FaultsWf s) (hf : t.faults = s.faults) (hq : t.queues = s.queues) : FaultsWf t :=
  h.congr hf fun q => by rw [State.queue_congr hq]; exact id

theorem State.setQueue_isSome (s : State) (q k : QueueIx) (d : Queue) (h : (s.queue k).isSome = true) : ((s.setQueue q d).queue k).isSome = true := by
  rw [State.setQueue_queue]; split
  · rfl
  · exact h

theorem FaultsWf.setFaultRecord {l : Link} {r : FaultRecord} (h : FaultsWf s) (hr : RecordWf s r) : FaultsWf (s.setFaultRecord l r) :=
  faultsWf_iff.mpr fun k => by
    by_cases hk : k = l
    · subst hk; rw [State.setFaultRecord_faultRecord_same]; exact hr
    · rw [State.setFaultRecord_faultRecord_ne _ hk]; exact h k

/-- A queue that goes takes the designations that name it along (R131). -/
theorem FaultsWf.removeQueue (h : FaultsWf s) (q : QueueIx) : FaultsWf { s.removeQueue q with faults := mapLinks (clearDesignation q) s.faults } := by
  refine faultsWf_iff.mpr fun l => ?_
  have hl : State.faultRecord { s.removeQueue q with faults := mapLinks (clearDesignation q) s.faults } l =
      clearDesignation q l (s.faultRecord l) := getAt_mapLinks ..
  obtain ⟨hform, hdes⟩ := h l
  rw [hl]
  unfold clearDesignation
  split
  · exact ⟨hform, nofun⟩
  · next hne =>
    refine ⟨hform, fun k hk => ?_⟩
    have hkq : k ≠ q := fun e => hne (e ▸ hk)
    have := State.removeQueue_queue s q k
    rw [if_neg hkq] at this
    exact (congrArg Option.isSome this).trans (hdes k hk)

theorem findAt_map {α β : Type} {n : Nat} (f : α → β) (t : List (Fin n × α)) (i : Fin n) :
    findAt (t.map fun e => (e.1, f e.2)) i = (findAt t i).map f := by
  induction t with
  | nil => rfl
  | cons e t ih =>
    simp only [List.map_cons, findAt, ih]
    split <;> rfl

theorem State.detach_queue (s : State) (l : Link) (q : QueueIx) : (s.detach l).queue q = (s.queue q).map (Queue.unbindFrom l) := by
  rw [State.detach_frame]; exact findAt_map ..

theorem FaultsWf.detach (h : FaultsWf s) (l : Link) : FaultsWf (s.detach l) :=
  h.congr (by rw [State.detach_frame]) fun q hq => by rw [State.detach_queue]; simpa using hq

theorem faultsWf_of_blank (h : t.faults = Vector.replicate 8 {}) : FaultsWf t := faultsWf_iff.mpr fun l => by
  simp only [State.faultRecord, h, getAt_replicate]; exact recordWf_blank

theorem Move.faultsWf (m : Move host w s w' t) (h : FaultsWf s) : FaultsWf t := by
  cases m with
  | record l r hr => exact h.setFaultRecord (RecordWf.kept (h l) hr)
  | setQueue q d => exact h.congr rfl fun k => s.setQueue_isSome q k d
  | endTake q d => exact h.congr rfl fun k => s.setQueue_isSome q k _
  | startTake _ q d => exact h.congr rfl fun k => s.setQueue_isSome q k _
  | removeQueue _ q => exact h.removeQueue q
  | detachClean l => exact h.detach l
  | detachAbrupt l => exact (h.detach l).of_queues rfl rfl
  | beginReset => exact faultsWf_of_blank rfl
  | detect c => rw [State.detect_eq]; exact h.of_queues rfl rfl
  | consume l => rw [State.consumeEntry_frame]; exact h.of_queues rfl rfl
  | modify c v l => rw [State.modify_frame]; exact h.of_queues rfl rfl
  | commit c v l => rw [State.consumeEntry_frame, State.modify_frame]; exact h.of_queues rfl rfl
  | expire x => rw [State.expireHold_frame]; exact h.of_queues rfl rfl
  | arm _ l c => rw [State.armed_frame]; exact h.of_queues rfl rfl
  | renew _ l => rw [State.renewLease_frame]; exact h.of_queues rfl rfl
  | attach => split <;> [rw [State.changeAdmin_frame]; skip] <;> exact h.of_queues rfl rfl
  | closing => rw [State.vacateAdmin_frame]; exact h.of_queues rfl rfl
  | changeAdmin => rw [State.changeAdmin_frame]; exact h.of_queues rfl rfl
  | _ => exact h

theorem faultsWf_reset : FaultsWf State.reset := faultsWf_of_blank rfl

end Sys2Proof.Machine

namespace Sys2Proof.Proofs

open Sys2Proof.Machine

/-- Settles O57: every move keeps the queues within their limits, and the fault records. -/
theorem stepKeepsTheQueueLimits : Obligations.StepKeepsTheQueueLimits := fun _ _ hq hf h =>
  step_keeps (P := fun _ s => QueuesWf s ∧ FaultsWf s) (fun m ⟨hq, hf⟩ => ⟨m.queuesWf hq, m.faultsWf hf⟩) (fun _ _ h => h)
    (fun _ _ _ => ⟨queuesWf_reset, faultsWf_reset⟩) (fun _ _ _ h => h) ⟨hq, hf⟩ h

end Sys2Proof.Proofs
end

section
/-! PROOF. The link units: the tags in flight, the receivers, the report sets and the link counters (R151, R152, R158, R160). -/

set_option Elab.async false

namespace Sys2Proof.Machine

variable {host : Prop} {w w' : Work} {s t : State}

/-- What LinksWf says of one link unit. -/
def LinkWf (u : LinkUnit) : Prop := u.tags.Nodup ∧ u.tags.length ≤ 4 ∧ UnitWf u

theorem linksWf_iff : LinksWf s ↔ ∀ l, LinkWf (s.link l) := Iff.rfl

/-- One unit is replaced by a well-formed one. -/
theorem LinksWf.at {l : Link} (h : LinksWf s) (hl : LinkWf (t.link l)) (ho : ∀ k, k ≠ l → t.link k = s.link k) : LinksWf t :=
  linksWf_iff.mpr fun k => by
    by_cases hk : k = l
    · exact hk ▸ hl
    · rw [ho k hk]; exact h k

theorem LinksWf.withLink {l : Link} {u : LinkUnit} (h : LinksWf s) (hu : LinkWf u) : LinksWf (s.withLink l u) :=
  LinksWf.at h (l := l) (by rw [State.withLink_link_same]; exact hu) fun _ hk => State.withLink_link_ne s hk u

theorem LinksWf.updReports {l : Link} {f : PendingReports → PendingReports} (h : LinksWf s)
    (ha : (s.link l).reports.arrivals.Pairwise (fun a b => a < b) → (f (s.link l).reports).arrivals.Pairwise (fun a b => a < b))
    (he : (s.link l).reports.linkEntry ≠ none → (f (s.link l).reports).linkEntry ≠ none) : LinksWf (s.updReports l f) := by
  obtain ⟨hn, h4, hr, hrise, h1, h2, h3, h5, h6, h7, hc⟩ := h l
  exact LinksWf.withLink h (u := { s.link l with reports := f (s.link l).reports })
    ⟨hn, h4, hr, ha hrise, h1, h2, h3, h5, h6, h7, fun hk => he (hc hk)⟩

/-- Every unit keeps all but the ROLE and INTEGRITY entries. -/
theorem LinksWf.of_roleReports (h : LinksWf s) (hl : ∀ l, ∃ a b, t.link l =
    { s.link l with reports := { (s.link l).reports with role := a, integrity := b } }) : LinksWf t := linksWf_iff.mpr fun l => by
  obtain ⟨a, b, hl⟩ := hl l
  rw [hl]; exact h l

theorem State.link_congr (hl : t.links = s.links) (l : Link) : t.link l = s.link l := by simp [State.link, hl]

theorem LinksWf.of_links (h : LinksWf s) (hl : t.links = s.links) : LinksWf t := linksWf_iff.mpr fun l => by
  rw [State.link_congr hl]; exact h l

theorem LinkWf.answered {u : LinkUnit} (h : LinkWf u) (r : Reply) : LinkWf { u with tags := u.tags.erase r.tag, replies := u.replies ++ [r] } := by
  obtain ⟨hn, h4, hu⟩ := h
  exact ⟨hn.erase _, le_trans (List.length_erase_le ..) h4, hu⟩

/-- A unit with nothing of its host's left, but for counters that are as they were or 0. -/
theorem LinkWf.emptied {u : LinkUnit} (h : LinkWf u) {k : LinkCounters} {ended : Option SessionEnded} {entry : Option LinkEntry}
    (hk : k = {} ∨ k = u.counters) (hn : k ≠ {} → entry ≠ none) :
    LinkWf { u with
      tags := [], heldFrames := [], inbox := [], replies := [], counters := k, reports := { sessionEnded := ended, linkEntry := entry } } := by
  obtain ⟨-, -, hr, -, h1, h2, h3, h5, h6, h7, -⟩ := h
  rcases hk with rfl | rfl
  · exact ⟨.nil, Nat.zero_le _, hr, .nil, Nat.zero_le _, Nat.zero_le _, Nat.zero_le _, Nat.zero_le _, Nat.zero_le _, Nat.zero_le _, hn⟩
  · exact ⟨.nil, Nat.zero_le _, hr, .nil, h1, h2, h3, h5, h6, h7, hn⟩

theorem ReceiverWf.rebase {r : Receiver} (h : ReceiverWf r) (back : Clock) : ReceiverWf (r.rebase back) := by
  cases r <;> exact h

theorem LinkWf.resetBegun {u : LinkUnit} (h : LinkWf u) (back : Clock) : LinkWf (u.resetBegun back).takeHeldResync := by
  obtain ⟨-, -, hr, -, h1, h2, h3, h5, h6, h7, -⟩ := h
  unfold LinkUnit.takeHeldResync
  split
  · exact ⟨.nil, Nat.zero_le _, hr.rebase back, .nil, Nat.zero_le _, Nat.zero_le _, Nat.zero_le _, Nat.zero_le _, Nat.zero_le _,
      Nat.zero_le _, fun hk => absurd rfl hk⟩
  · exact ⟨.nil, Nat.zero_le _, hr.rebase back, .nil, h1, h2, h3, h5, h6, h7, noticeIfCounted_ne⟩

theorem State.detach_link (s : State) (l k : Link) :
    ∃ a b, (s.detach l).link k = { s.link k with reports := { (s.link k).reports with role := a, integrity := b } } :=
  State.vacateAdmin_link _ l k

theorem LinksWf.emptyLink {l : Link} (h : LinksWf s) {k : LinkCounters} {ended : Option SessionEnded} {entry : Option LinkEntry}
    (hk : k = {} ∨ k = (s.link l).counters) (hn : k ≠ {} → entry ≠ none) : LinksWf (s.emptyLink l k ended entry) :=
  LinksWf.at h (l := l) (by rw [State.emptyLink_link_same]; exact LinkWf.emptied (h l) hk hn) fun _ hj => s.emptyLink_link_ne hj ..

theorem LinksWf.accept {l : Link} {tag : Tag} (h : LinksWf s) (hfree : (s.link l).tags.length + (s.link l).replies.length < 4)
    (hnew : tag ∉ (s.link l).tags) : LinksWf (s.withLink l { s.link l with tags := (s.link l).tags ++ [tag] }) := by
  obtain ⟨hn, -, hu⟩ := h l
  refine LinksWf.withLink h ⟨List.nodup_append.mpr ⟨hn, List.nodup_singleton _, ?_⟩, ?_, hu⟩
  · intro a ha b hb hab
    rw [List.mem_singleton] at hb
    exact hnew (hb ▸ hab ▸ ha)
  · simp only [List.length_append, List.length_singleton]; omega

theorem linksWf_detect (h : LinksWf s) (c : CellIx) : LinksWf (s.detect c) := by
  refine h.of_roleReports fun l => ⟨(s.link l).reports.role, ((s.detect c).link l).reports.integrity, ?_⟩
  rw [State.detect_eq]
  cases s.admin with
  | none => rfl
  | some a =>
    by_cases hla : l = a
    · subst hla; simp [State.link]
    · simp [State.link, getAt_setAt_ne _ hla]

theorem Move.linksWf (m : Move host w s w' t) (h : LinksWf s) : LinksWf t := by
  cases m with
  | unit l u hu =>
    obtain ⟨hn, h4, hw⟩ := h l
    exact LinksWf.withLink h ⟨hu.tags ▸ hn, hu.tags ▸ h4, hu.wf hw⟩
  | accept _ l tag hfree hnew => exact h.accept hfree hnew
  | holdFrame _ l => exact LinksWf.withLink h (h l)
  | intoInbox _ l => exact LinksWf.withLink h (h l)
  | fromInbox _ l => exact LinksWf.withLink h (h l)
  | answer l r => exact LinksWf.withLink h (LinkWf.answered (h l) r)
  | endTake q d x r => exact LinksWf.withLink (s := s.setQueue q _) h (LinkWf.answered (h x.link) r)
  | detect c => exact linksWf_detect h c
  | attach =>
    split
    · exact LinksWf.of_roleReports h fun k => State.changeAdmin_link _ _ k
    · exact h
  | closing => exact LinksWf.of_roleReports h fun k => State.vacateAdmin_link _ _ k
  | changeAdmin => exact h.of_roleReports fun k => State.changeAdmin_link _ _ k
  | detachClean l => exact h.of_roleReports (s.detach_link l)
  | detachAbrupt l k ended entry _ _ _ hk hn =>
    refine LinksWf.emptyLink (h.of_roleReports (s.detach_link l)) (hk.imp_right fun hk => ?_) hn
    obtain ⟨_, _, hl⟩ := s.detach_link l l
    rw [hl]; exact hk
  | emptyLink _ l k ended entry _ hk hn => exact h.emptyLink hk hn
  | withdraw l p => exact h.updReports (fun hr => hr.filter _) id
  | sendIntegrity _ l => exact (h.updReports (f := fun r => { r with integrity := false }) id id).of_links rfl
  | beginReset _ scope =>
    refine linksWf_iff.mpr fun l => ?_
    simp only [State.link, State.beginReset, getAt_mapLinks]
    exact LinkWf.resetBegun (h l) _
  | consume l => exact h.of_links (by rw [State.consumeEntry_frame])
  | modify c v l => exact h.of_links (by rw [State.modify_frame])
  | commit c v l => exact h.of_links (by rw [State.consumeEntry_frame, State.modify_frame])
  | expire x => exact h.of_links (by rw [State.expireHold_frame])
  | arm _ l c => exact h.of_links (by rw [State.armed_frame])
  | renew _ l => exact h.of_links (by rw [State.renewLease_frame])
  | _ => exact h

theorem linksWf_reset : LinksWf State.reset := linksWf_iff.mpr fun l => by
  have hl : State.reset.link l = {} := getAt_replicate ..
  rw [hl]
  exact ⟨.nil, Nat.zero_le _, trivial, .nil, Nat.zero_le _, Nat.zero_le _, Nat.zero_le _, Nat.zero_le _, Nat.zero_le _, Nat.zero_le _,
    fun hk => absurd rfl hk⟩

end Sys2Proof.Machine
end

section
/-! PROOF. The requests of a link: what waits somewhere has its tag in flight, once (R104, R109, R151, R155 to R157). -/

set_option Elab.async false

namespace Sys2Proof.Machine

variable {host : Prop} {w w' : Work} {s t : State}

/-! ## What waits where -/

/-- The tag of a link's request that an event has in hand. -/
def Work.inHand (w : Work) (l : Link) : List Tag :=
  match w.request with
  | some r => if r.link = l then [r.tag] else []
  | none => []

@[simp] theorem Work.inHand_none (d : Option CellIx) (l : Link) : Work.inHand ⟨none, d⟩ l = [] := rfl

@[simp] theorem Work.inHand_same (l : Link) (tag : Tag) (b : Bool) (d : Option CellIx) : Work.inHand ⟨some ⟨l, tag, b⟩, d⟩ l = [tag] := by
  simp [Work.inHand]

theorem Work.inHand_ne {l k : Link} (h : k ≠ l) (tag : Tag) (b : Bool) (d : Option CellIx) : Work.inHand ⟨some ⟨l, tag, b⟩, d⟩ k = [] := by
  simp [Work.inHand, Ne.symm h]

/-- The waiting takes of a table of queues. -/
def takesOf (qs : List (QueueIx × Queue)) : List WaitingTake := qs.filterMap fun e => e.2.waitingTake

/-- Tags of a link's requests of each block. -/
def deferredTags (es : List DwqEntry) (l : Link) : List Tag := (es.filter fun e => decide (e.link = l)).map DwqEntry.tag
def takeTags (xs : List WaitingTake) (l : Link) : List Tag := (xs.filter fun x => decide (x.link = l)).map WaitingTake.tag
def postTags (ps : List ForwardPost) (l : Link) : List Tag := (ps.filter fun p => decide (p.link = l)).map ForwardPost.tag

/-- The tags that the link unit still has. -/
def LinkUnit.unhanded (u : LinkUnit) : List Tag := u.heldFrames.map RawFrame.tag ++ u.inbox.map Waiting.tag

theorem State.atBlocks_eq (s : State) (l : Link) :
    s.atBlocks l = (s.cellLine l).map Waiting.tag ++ (s.queueLine l).map Waiting.tag ++ deferredTags s.dwq l ++
      takeTags (takesOf s.queues) l ++ postTags s.forwardPosts l := rfl

theorem State.outstanding_eq (s : State) (l : Link) : s.outstanding l = (s.link l).unhanded ++ s.atBlocks l := rfl

/-- The queues of two states have the same waiting takes, in some order. -/
def SameTakes (qs qs' : List (QueueIx × Queue)) : Prop := (takesOf qs').Perm (takesOf qs)

theorem takeTags_perm {xs ys : List WaitingTake} (h : xs.Perm ys) (l : Link) : (takeTags xs l).Perm (takeTags ys l) := (h.filter _).map _

/-- The waiting takes are that of one queue and those of the others. -/
theorem takesOf_perm {qs : List (QueueIx × Queue)} (hr : Rising qs) (q : QueueIx) :
    (takesOf qs).Perm (((findAt qs q).bind Queue.waitingTake).toList ++ takesOf (dropAt qs q)) := by
  induction qs with
  | nil => simp [takesOf, findAt, dropAt]
  | cons e qs ih =>
    obtain ⟨k, d⟩ := e
    obtain ⟨hk, hr'⟩ := List.pairwise_cons.mp hr
    by_cases hkq : k = q
    · subst hkq
      have hdrop : dropAt ((k, d) :: qs) k = qs := by
        simp only [dropAt, ne_eq, not_true_eq_false, decide_false, Bool.false_eq_true, not_false_eq_true, List.filter_cons_of_neg]
        exact List.filter_eq_self.mpr fun e he => by simpa using ne_of_gt (hk e he)
      rw [hdrop]
      cases hd : d.waitingTake <;> simp [takesOf, findAt, hd]
    · have hdrop : dropAt ((k, d) :: qs) q = (k, d) :: dropAt qs q := by simp [dropAt, hkq]
      have hfind : findAt ((k, d) :: qs) q = findAt qs q := by simp [findAt, hkq]
      rw [hdrop, hfind]
      cases hd : d.waitingTake with
      | none => simpa [takesOf, hd] using ih hr'
      | some x =>
        simp only [takesOf, List.filterMap_cons, hd] at ih ⊢
        exact ((ih hr').cons x).trans List.perm_middle.symm

theorem takesOf_putAt_perm {qs : List (QueueIx × Queue)} (hr : Rising qs) (q : QueueIx) (d : Queue) :
    (takesOf (putAt qs q d)).Perm (d.waitingTake.toList ++ takesOf (dropAt qs q)) := by
  have h := takesOf_perm (putAt_rising hr q d) q
  rwa [dropAt_putAt, findAt_putAt, if_pos rfl] at h


/-! ## The invariant with a request in hand -/

/-- RequestsWf of a state in the middle of an event: the request in hand has its tag in flight too, besides those that wait. -/
structure RequestsHeld (w : Work) (s : State) : Prop where
  inFlight : ∀ l, (s.outstanding l ++ w.inHand l).Subperm (s.link l).tags
  window : ∀ l, (s.link l).tags.length + (s.link l).replies.length ≤ 4
  closing : ∀ l x, s.session l = some x → x.phase = .closing → (s.outstanding l ++ w.inHand l).length < (s.link l).tags.length
  detached : ∀ l, s.session l = none → s.atBlocks l = []
  attached : ∀ r, w.request = some r → r.session = true → s.session r.link ≠ none

theorem requestsHeld_idle {d : Option CellIx} : RequestsHeld ⟨none, d⟩ s ↔ RequestsWf s := by
  constructor
  · intro h l
    exact ⟨by simpa using h.inFlight l, h.window l, by simpa using h.closing l, h.detached l⟩
  · intro h
    refine ⟨fun l => ?_, fun l => (h l).2.1, fun l x hx hp => ?_, fun l => (h l).2.2.2, nofun⟩
    · simpa using (h l).1
    · simpa using (h l).2.2.1 x hx hp

/-- What waits and what is in hand is the same, as are the tags; what is CLOSING or DETACHED was so. -/
theorem RequestsHeld.rearranged (h : RequestsHeld w s)
    (hperm : ∀ l, (t.outstanding l ++ w'.inHand l).Perm (s.outstanding l ++ w.inHand l))
    (htags : ∀ l, (t.link l).tags = (s.link l).tags) (hreplies : ∀ l, (t.link l).replies.length ≤ (s.link l).replies.length)
    (hclosing : ∀ l x, t.session l = some x → x.phase = .closing → ∃ y, s.session l = some y ∧ y.phase = .closing)
    (hdetached : ∀ l, t.session l = none → t.atBlocks l = [])
    (hattached : ∀ r, w'.request = some r → r.session = true → t.session r.link ≠ none) : RequestsHeld w' t where
  inFlight l := by rw [htags]; exact (hperm l).subperm.trans (h.inFlight l)
  window l := by rw [htags]; exact le_trans (Nat.add_le_add_left (hreplies l) _) (h.window l)
  closing l x hx hp := by
    obtain ⟨y, hy, hyp⟩ := hclosing l x hx hp
    rw [htags, (hperm l).length_eq]; exact h.closing l y hy hyp
  detached := hdetached
  attached := hattached

/-- Nothing that waits or is in flight changes. -/
theorem RequestsHeld.unmoved (h : RequestsHeld w s) (hw : w'.request = w.request)
    (hlink : ∀ l, (t.link l).tags = (s.link l).tags ∧ (t.link l).unhanded = (s.link l).unhanded ∧
      (t.link l).replies.length ≤ (s.link l).replies.length)
    (hblocks : ∀ l, (t.atBlocks l).Perm (s.atBlocks l)) (hs : ∀ l, (t.session l).map Session.phase = (s.session l).map Session.phase) :
    RequestsHeld w' t := by
  have hnone : ∀ l, t.session l = none ↔ s.session l = none := fun l => by
    rw [← Option.map_eq_none_iff (f := Session.phase), hs, Option.map_eq_none_iff]
  have hhand : ∀ l, w'.inHand l = w.inHand l := fun l => by simp [Work.inHand, hw]
  refine h.rearranged (fun l => ?_) (fun l => (hlink l).1) (fun l => (hlink l).2.2) (fun l x hx hp => ?_) (fun l hl => ?_) fun r hr hf => ?_
  · rw [State.outstanding_eq, State.outstanding_eq, (hlink l).2.1, hhand]
    exact ((hblocks l).append_left _).append_right _
  · have := hs l
    rw [hx] at this
    obtain ⟨y, hy, hyp⟩ := Option.map_eq_some_iff.mp this.symm
    exact ⟨y, hy, hyp.trans hp⟩
  · have := hblocks l
    rw [h.detached l ((hnone l).mp hl)] at this
    exact this.eq_nil
  · rw [ne_eq, hnone]; exact h.attached r (hw ▸ hr) hf

/-- Nothing but link units changes, and they keep what waits and is in flight. -/
theorem RequestsHeld.of_links (h : RequestsHeld w s)
    (hlink : ∀ l, (t.link l).tags = (s.link l).tags ∧ (t.link l).unhanded = (s.link l).unhanded ∧
      (t.link l).replies.length ≤ (s.link l).replies.length)
    (hblocks : ∀ l, t.atBlocks l = s.atBlocks l) (hs : t.sessions = s.sessions) : RequestsHeld w t :=
  h.unmoved rfl hlink (fun l => by rw [hblocks]) fun l => by rw [State.session_congr hs]

theorem RequestsHeld.same (h : RequestsHeld w s) (hlink : t.links = s.links) (hblocks : ∀ l, t.atBlocks l = s.atBlocks l)
    (hs : t.sessions = s.sessions) : RequestsHeld w t :=
  h.of_links (fun l => by simp [State.link_congr hlink]) hblocks hs

/-- One request of link `l` goes from one place to another, or into or out of hand. -/
theorem RequestsHeld.moved {l : Link} (h : RequestsHeld w s) (hs : t.sessions = s.sessions)
    (htags : ∀ k, (t.link k).tags = (s.link k).tags ∧ (t.link k).replies = (s.link k).replies)
    (hother : ∀ k, k ≠ l → (t.outstanding k).Perm (s.outstanding k) ∧ (t.atBlocks k).Perm (s.atBlocks k) ∧ w'.inHand k = w.inHand k)
    (hperm : (t.outstanding l ++ w'.inHand l).Perm (s.outstanding l ++ w.inHand l))
    (hdetached : s.session l = none → t.atBlocks l = [])
    (hattached : ∀ r, w'.request = some r → r.session = true → s.session r.link ≠ none) : RequestsHeld w' t := by
  have hsession := State.session_congr hs
  refine h.rearranged (fun k => ?_) (fun k => (htags k).1) (fun k => by rw [(htags k).2]) (fun k x hx hp => ⟨x, hsession k ▸ hx, hp⟩) (fun k hk => ?_)
    fun r hr hf => by rw [hsession]; exact hattached r hr hf
  · by_cases hkl : k = l
    · subst hkl; exact hperm
    · obtain ⟨ho, _, hw⟩ := hother k hkl
      rw [hw]; exact ho.append_right _
  · rw [hsession] at hk
    by_cases hkl : k = l
    · subst hkl; exact hdetached hk
    · obtain ⟨_, hb, _⟩ := hother k hkl
      exact (h.detached k hk ▸ hb).eq_nil

/-- A reply is placed: the request, in hand or waiting before, has left flight. -/
theorem RequestsHeld.replied {l : Link} {tag : Tag} (h : RequestsHeld w s) (hs : t.sessions = s.sessions)
    (htags : (t.link l).tags = (s.link l).tags.erase tag) (hreplies : (t.link l).replies.length = (s.link l).replies.length + 1)
    (hlink : ∀ k, k ≠ l → t.link k = s.link k) (hother : ∀ k, k ≠ l → (t.outstanding k ++ w'.inHand k).Perm (s.outstanding k ++ w.inHand k))
    (hperm : (tag :: (t.outstanding l ++ w'.inHand l)).Perm (s.outstanding l ++ w.inHand l))
    (hdetached : ∀ k, s.session k = none → t.atBlocks k = [])
    (hattached : ∀ r, w'.request = some r → r.session = true → s.session r.link ≠ none) : RequestsHeld w' t := by
  have hsession := State.session_congr hs
  have hsub : (tag :: (t.outstanding l ++ w'.inHand l)).Subperm (s.link l).tags := hperm.subperm.trans (h.inFlight l)
  have hmem : tag ∈ (s.link l).tags := hsub.subset List.mem_cons_self
  have hlen : (t.link l).tags.length + 1 = (s.link l).tags.length := by
    have := List.length_pos_of_mem hmem
    rw [htags, List.length_erase_of_mem hmem]; omega
  refine ⟨fun k => ?_, fun k => ?_, fun k x hx hp => ?_, fun k hk => hdetached k (hsession k ▸ hk), fun r hr hf => ?_⟩
  · by_cases hk : k = l
    · subst hk
      have := hsub.erase tag
      rwa [List.erase_cons_head, ← htags] at this
    · rw [hlink k hk]; exact (hother k hk).subperm.trans (h.inFlight k)
  · by_cases hk : k = l
    · subst hk; have := h.window k; omega
    · rw [hlink k hk]; exact h.window k
  · have hc := h.closing k x (hsession k ▸ hx) hp
    by_cases hk : k = l
    · subst hk
      have := hperm.length_eq
      simp only [List.length_cons] at this
      omega
    · rw [hlink k hk, (hother k hk).length_eq]; exact hc
  · rw [hsession]; exact hattached r hr hf

theorem State.placeReply_link_same (s : State) (l : Link) (r : Reply) :
    (s.placeReply l r).link l = { s.link l with tags := (s.link l).tags.erase r.tag, replies := (s.link l).replies ++ [r] } :=
  State.updLink_link_same ..

theorem State.placeReply_link_ne (s : State) {l k : Link} (h : k ≠ l) (r : Reply) : (s.placeReply l r).link k = s.link k :=
  State.updLink_link_ne s h _

theorem State.placeReply_outstanding (s : State) (l k : Link) (r : Reply) : (s.placeReply l r).outstanding k = s.outstanding k := by
  rw [State.outstanding_eq, State.outstanding_eq]
  refine congrArg₂ _ ?_ rfl
  by_cases hk : k = l
  · subst hk; rw [State.placeReply_link_same]; rfl
  · rw [State.placeReply_link_ne s hk]

theorem RequestsHeld.answer {l : Link} {r : Reply} {b : Bool} {d : Option CellIx} (h : RequestsHeld ⟨some ⟨l, r.tag, b⟩, d⟩ s) :
    RequestsHeld ⟨none, d⟩ (s.placeReply l r) := by
  refine h.replied (l := l) (tag := r.tag) rfl ?_ ?_ (fun k hk => s.placeReply_link_ne hk r) (fun k hk => ?_) ?_ h.detached nofun
  · rw [State.placeReply_link_same]
  · rw [State.placeReply_link_same]; simp
  · rw [State.placeReply_outstanding, Work.inHand_none, Work.inHand_ne hk]
  · rw [State.placeReply_outstanding, Work.inHand_none, Work.inHand_same, List.append_nil]
    exact (List.perm_append_singleton ..).symm

/-! ## Into and out of hand -/

section
variable {l : Link} {x : Waiting} {rest : List Waiting} {tag : Tag} {b : Bool} {d : Option CellIx}

theorem State.atBlocks_withLink (s : State) (l k : Link) (u : LinkUnit) : (s.withLink l u).atBlocks k = s.atBlocks k := rfl

theorem State.outstanding_withLink_same (s : State) (l : Link) (u : LinkUnit) : (s.withLink l u).outstanding l = u.unhanded ++ s.atBlocks l := by
  rw [State.outstanding_eq, State.withLink_link_same]; rfl

theorem State.outstanding_withLink_ne (s : State) {l k : Link} (h : k ≠ l) (u : LinkUnit) :
    (s.withLink l u).outstanding k = s.outstanding k := by
  rw [State.outstanding_eq, State.withLink_link_ne s h]; rfl

theorem RequestsHeld.accept (h : RequestsHeld ⟨none, d⟩ s) (hfree : (s.link l).tags.length + (s.link l).replies.length < 4) :
    RequestsHeld ⟨some ⟨l, tag, (s.session l).isSome⟩, d⟩ (s.withLink l { s.link l with tags := (s.link l).tags ++ [tag] }) where
  inFlight k := by
    have := h.inFlight k
    rw [Work.inHand_none, List.append_nil] at this
    by_cases hk : k = l
    · subst hk
      rw [State.outstanding_withLink_same, State.withLink_link_same, Work.inHand_same]
      exact (List.subperm_append_right [tag]).mpr this
    · rw [State.outstanding_withLink_ne s hk, State.withLink_link_ne s hk, Work.inHand_ne hk, List.append_nil]; exact this
  window k := by
    by_cases hk : k = l
    · subst hk; rw [State.withLink_link_same]; simp only [List.length_append, List.length_singleton]; omega
    · rw [State.withLink_link_ne s hk]; exact h.window k
  closing k y hy hp := by
    have := h.closing k y hy hp
    rw [Work.inHand_none, List.append_nil] at this
    by_cases hk : k = l
    · subst hk
      rw [State.outstanding_withLink_same, State.withLink_link_same, Work.inHand_same]
      simp only [LinkUnit.unhanded, State.outstanding_eq, List.length_append, List.length_singleton] at this ⊢
      omega
    · rw [State.outstanding_withLink_ne s hk, State.withLink_link_ne s hk, Work.inHand_ne hk, List.append_nil]; exact this
  detached := h.detached
  attached r hr hf := by
    cases hr
    intro hn
    have hn : s.session l = none := hn
    simp [hn] at hf

/-- The link unit keeps or lets go of a request. -/
theorem RequestsHeld.unit {u : LinkUnit} (h : RequestsHeld w s) (htags : u.tags = (s.link l).tags) (hreplies : u.replies = (s.link l).replies)
    (hhand : ∀ k, k ≠ l → w'.inHand k = w.inHand k) (hperm : (u.unhanded ++ w'.inHand l).Perm ((s.link l).unhanded ++ w.inHand l))
    (hattached : ∀ r, w'.request = some r → r.session = true → s.session r.link ≠ none) : RequestsHeld w' (s.withLink l u) := by
  refine h.moved (l := l) rfl (fun k => ?_) (fun k hk => ⟨.of_eq (s.outstanding_withLink_ne hk u), .refl _, hhand k hk⟩) ?_ (h.detached l) hattached
  · rw [State.withLink_link]; split
    · next hk => subst hk; exact ⟨htags, hreplies⟩
    · exact ⟨rfl, rfl⟩
  · rw [State.outstanding_withLink_same, State.outstanding_eq, List.append_assoc, List.append_assoc]
    have hc : ∀ a b c : List Tag, (a ++ (b ++ c)).Perm (b ++ (a ++ c)) := fun a b c => by
      rw [← List.append_assoc, ← List.append_assoc]; exact List.perm_append_comm.append_right c
    exact (hc ..).trans ((hperm.append_left _).trans (hc ..))

theorem RequestsHeld.holdFrame {f : RawFrame} (h : RequestsHeld ⟨some ⟨l, f.tag, b⟩, d⟩ s) :
    RequestsHeld ⟨none, d⟩ (s.withLink l { s.link l with heldFrames := (s.link l).heldFrames ++ [f] }) := by
  refine h.unit rfl rfl (fun k hk => (Work.inHand_ne hk ..).symm) ?_ nofun
  simp only [LinkUnit.unhanded, Work.inHand_none, Work.inHand_same, List.append_nil, List.map_append, List.map_cons, List.map_nil,
    List.append_assoc]
  exact (List.perm_append_comm).append_left _

theorem RequestsHeld.intoInbox (h : RequestsHeld ⟨some ⟨l, x.tag, b⟩, d⟩ s) :
    RequestsHeld ⟨none, d⟩ (s.withLink l { s.link l with inbox := (s.link l).inbox ++ [x] }) := by
  refine h.unit rfl rfl (fun k hk => (Work.inHand_ne hk ..).symm) ?_ nofun
  simp [LinkUnit.unhanded]

theorem RequestsHeld.fromInbox (h : RequestsHeld ⟨none, d⟩ s) (hi : (s.link l).inbox = x :: rest) :
    RequestsHeld ⟨some ⟨l, x.tag, (s.session l).isSome⟩, d⟩ (s.withLink l { s.link l with inbox := rest }) := by
  refine h.unit rfl rfl (fun k hk => Work.inHand_ne hk ..) ?_ fun r hr hf => ?_
  · simp only [LinkUnit.unhanded, hi, Work.inHand_none, Work.inHand_same, List.append_nil, List.map_cons, List.append_assoc]
    exact (List.perm_append_singleton ..).append_left _
  · cases hr
    intro hn
    simp [hn] at hf

/-- A request goes to a block, or comes from one; only sessions that are not DETACHED have requests there. -/
theorem RequestsHeld.block (h : RequestsHeld w s) (hs : t.sessions = s.sessions) (hlinks : t.links = s.links)
    (hother : ∀ k, k ≠ l → (t.atBlocks k).Perm (s.atBlocks k) ∧ w'.inHand k = w.inHand k)
    (hperm : (t.atBlocks l ++ w'.inHand l).Perm (s.atBlocks l ++ w.inHand l)) (hsession : s.session l ≠ none)
    (hlink : ∀ r, w'.request = some r → r.link = l) : RequestsHeld w' t := by
  have hlk := State.link_congr hlinks
  refine h.moved (l := l) hs (fun k => by rw [hlk]; exact ⟨rfl, rfl⟩) (fun k hk => ?_) ?_ (fun hn => absurd hn hsession)
    fun r hr _ => hlink r hr ▸ hsession
  · obtain ⟨hb, hw⟩ := hother k hk
    rw [State.outstanding_eq, State.outstanding_eq, hlk]; exact ⟨hb.append_left _, hb, hw⟩
  · rw [State.outstanding_eq, State.outstanding_eq, hlk, List.append_assoc, List.append_assoc]
    exact hperm.append_left _

/-- A request in hand goes to a block. -/
theorem RequestsHeld.intoBlock (h : RequestsHeld ⟨some ⟨l, tag, true⟩, d⟩ s) (hs : t.sessions = s.sessions) (hlinks : t.links = s.links)
    (hother : ∀ k, k ≠ l → (t.atBlocks k).Perm (s.atBlocks k)) (hperm : (t.atBlocks l).Perm (tag :: s.atBlocks l)) {d' : Option CellIx} :
    RequestsHeld ⟨none, d'⟩ t := by
  refine h.block hs hlinks (fun k hk => ⟨hother k hk, (Work.inHand_ne hk ..).symm⟩) ?_ (h.attached _ rfl rfl) nofun
  rw [Work.inHand_none, Work.inHand_same, List.append_nil]
  exact hperm.trans (List.perm_append_singleton ..).symm

/-- A request is taken in hand from a block. -/
theorem RequestsHeld.fromBlock {d' : Option CellIx} (h : RequestsHeld ⟨none, d'⟩ s) (hs : t.sessions = s.sessions) (hlinks : t.links = s.links)
    (hother : ∀ k, k ≠ l → (t.atBlocks k).Perm (s.atBlocks k)) (hperm : (s.atBlocks l).Perm (tag :: t.atBlocks l)) :
    RequestsHeld ⟨some ⟨l, tag, b⟩, d⟩ t := by
  refine h.block (l := l) hs hlinks (fun k hk => ⟨hother k hk, Work.inHand_ne hk ..⟩) ?_ (fun hn => ?_) fun r hr => by cases hr; rfl
  · rw [Work.inHand_none, Work.inHand_same, List.append_nil]
    exact (List.perm_append_singleton ..).trans hperm.symm
  · rw [h.detached l hn] at hperm
    exact absurd hperm.symm.eq_nil (List.cons_ne_nil _ _)

theorem State.atBlocks_setCellLine_same (s : State) (l : Link) (ws : List Waiting) :
    (s.setCellLine l ws).atBlocks l = ws.map Waiting.tag ++ ((s.queueLine l).map Waiting.tag ++ (deferredTags s.dwq l ++
      (takeTags (takesOf s.queues) l ++ postTags s.forwardPosts l))) := by
  rw [State.atBlocks_eq, State.setCellLine_cellLine_same]; simp only [List.append_assoc]; rfl

theorem State.atBlocks_setCellLine_ne (s : State) {l k : Link} (h : k ≠ l) (ws : List Waiting) : (s.setCellLine l ws).atBlocks k = s.atBlocks k := by
  rw [State.atBlocks_eq, State.setCellLine_cellLine_ne s h]; rfl

theorem State.atBlocks_setQueueLine_same (s : State) (l : Link) (ws : List Waiting) :
    (s.setQueueLine l ws).atBlocks l = (s.cellLine l).map Waiting.tag ++ (ws.map Waiting.tag ++ (deferredTags s.dwq l ++
      (takeTags (takesOf s.queues) l ++ postTags s.forwardPosts l))) := by
  rw [State.atBlocks_eq, State.setQueueLine_queueLine_same]; simp only [List.append_assoc]; rfl

theorem State.atBlocks_setQueueLine_ne (s : State) {l k : Link} (h : k ≠ l) (ws : List Waiting) :
    (s.setQueueLine l ws).atBlocks k = s.atBlocks k := by
  rw [State.atBlocks_eq, State.setQueueLine_queueLine_ne s h]; rfl

theorem RequestsHeld.intoCellLine (h : RequestsHeld ⟨some ⟨l, x.tag, true⟩, d⟩ s) :
    RequestsHeld ⟨none, d⟩ (s.setCellLine l (s.cellLine l ++ [x])) := by
  refine h.intoBlock (t := s.setCellLine l (s.cellLine l ++ [x])) rfl rfl (fun k hk => .of_eq (s.atBlocks_setCellLine_ne hk _)) ?_
  rw [State.atBlocks_setCellLine_same, State.atBlocks_eq]
  simp only [List.map_append, List.map_cons, List.map_nil, List.append_assoc, List.singleton_append]
  exact List.perm_middle

theorem RequestsHeld.fromCellLine (h : RequestsHeld ⟨none, d⟩ s) (hl : s.cellLine l = x :: rest) :
    RequestsHeld ⟨some ⟨l, x.tag, true⟩, d⟩ (s.setCellLine l rest) := by
  refine h.fromBlock (t := s.setCellLine l rest) rfl rfl (fun k hk => .of_eq (s.atBlocks_setCellLine_ne hk _)) ?_
  rw [State.atBlocks_setCellLine_same, State.atBlocks_eq, hl]
  simp only [List.map_cons, List.append_assoc, List.cons_append]
  exact .refl _

theorem RequestsHeld.intoQueueLine (h : RequestsHeld ⟨some ⟨l, x.tag, true⟩, d⟩ s) :
    RequestsHeld ⟨none, d⟩ (s.setQueueLine l (s.queueLine l ++ [x])) := by
  refine h.intoBlock (t := s.setQueueLine l (s.queueLine l ++ [x])) rfl rfl (fun k hk => .of_eq (s.atBlocks_setQueueLine_ne hk _)) ?_
  rw [State.atBlocks_setQueueLine_same, State.atBlocks_eq]
  simp only [List.map_append, List.map_cons, List.map_nil, List.append_assoc, List.singleton_append]
  exact (List.perm_middle.append_left _).trans List.perm_middle

theorem RequestsHeld.fromQueueLine (h : RequestsHeld ⟨none, d⟩ s) (hl : s.queueLine l = x :: rest) :
    RequestsHeld ⟨some ⟨l, x.tag, true⟩, d⟩ (s.setQueueLine l rest) := by
  refine h.fromBlock (t := s.setQueueLine l rest) rfl rfl (fun k hk => .of_eq (s.atBlocks_setQueueLine_ne hk _)) ?_
  rw [State.atBlocks_setQueueLine_same, State.atBlocks_eq, hl]
  simp only [List.map_cons, List.append_assoc, List.cons_append]
  exact List.perm_middle

end

end Sys2Proof.Machine
end

section
/-! PROOF. The requests that leave with a session, wait as a waiting take, in the DWQ or for a forward post; every move keeps the requests of every link. -/

set_option Elab.async false

namespace Sys2Proof.Machine

variable {host : Prop} {w w' : Work} {s t : State} {l : Link} {tag : Tag} {b : Bool} {d : Option CellIx}

/-! ## Waiting in the DWQ and for a forward post -/

theorem deferredTags_ne {es : List DwqEntry} {e : DwqEntry} {k : Link} (h : k ≠ e.link) (fs : List DwqEntry) :
    deferredTags (es ++ e :: fs) k = deferredTags (es ++ fs) k := by
  simp [deferredTags, Ne.symm h]

theorem deferredTags_same (es fs : List DwqEntry) (e : DwqEntry) :
    (deferredTags (es ++ e :: fs) e.link).Perm (e.tag :: deferredTags (es ++ fs) e.link) := by
  simp only [deferredTags, List.filter_append, List.filter_cons, decide_true, if_true, List.map_append, List.map_cons]
  exact List.perm_middle

theorem postTags_ne {ps : List ForwardPost} {p : ForwardPost} {k : Link} (h : k ≠ p.link) (qs : List ForwardPost) :
    postTags (ps ++ p :: qs) k = postTags (ps ++ qs) k := by
  simp [postTags, Ne.symm h]

theorem postTags_same (ps qs : List ForwardPost) (p : ForwardPost) :
    (postTags (ps ++ p :: qs) p.link).Perm (p.tag :: postTags (ps ++ qs) p.link) := by
  simp only [postTags, List.filter_append, List.filter_cons, decide_true, if_true, List.map_append, List.map_cons]
  exact List.perm_middle

/-- The first entry that a search finds is the one that erasing takes out. -/
theorem find?_split {α : Type} {p : α → Bool} {xs : List α} {x : α} (h : xs.find? p = some x) :
    ∃ as bs, xs = as ++ x :: bs ∧ xs.eraseP p = as ++ bs := by
  obtain ⟨hx, as, bs, rfl, has⟩ := List.find?_eq_some_iff_append.mp h
  refine ⟨as, bs, rfl, ?_⟩
  rw [List.eraseP_append_right _ fun a ha => by simpa using has a ha, List.eraseP_cons_of_pos hx]

/-- The requests at the blocks, with those in the DWQ, the waiting takes and the forward posts rearranged. -/
theorem State.atBlocks_perm {k : Link} {extra extra' : List Tag} (hc : t.cellLines = s.cellLines) (hq : t.queueLines = s.queueLines)
    (h : (extra ++ deferredTags t.dwq k ++ takeTags (takesOf t.queues) k ++ postTags t.forwardPosts k).Perm
      (extra' ++ deferredTags s.dwq k ++ takeTags (takesOf s.queues) k ++ postTags s.forwardPosts k)) :
    (extra ++ t.atBlocks k).Perm (extra' ++ s.atBlocks k) := by
  have hcl : t.cellLine k = s.cellLine k := by simp [State.cellLine, hc]
  have hql : t.queueLine k = s.queueLine k := by simp [State.queueLine, hq]
  rw [State.atBlocks_eq, State.atBlocks_eq, hcl, hql]
  rw [List.perm_iff_count] at h ⊢
  intro a
  have := h a
  simp only [List.count_append] at this ⊢
  omega

theorem RequestsHeld.defer {e : DwqEntry} (h : RequestsHeld ⟨some ⟨e.link, e.tag, true⟩, d⟩ s) : RequestsHeld ⟨none, d⟩ (s.deferRequest e) := by
  refine h.intoBlock (t := s.deferRequest e) rfl rfl (fun k hk => ?_) ?_
  · refine State.atBlocks_perm (extra := []) (extra' := []) rfl rfl ?_
    have := deferredTags_ne (es := s.dwq) hk []
    rw [List.append_nil] at this
    rw [show (s.deferRequest e).dwq = s.dwq ++ [e] from rfl, this]; exact .refl _
  · refine State.atBlocks_perm (extra := []) (extra' := [e.tag]) rfl rfl ?_
    have := deferredTags_same s.dwq [] e
    rw [List.append_nil] at this
    exact (this.append_right _).append_right _

theorem RequestsHeld.undefer {c : CellIx} {e : DwqEntry} {d' : Option CellIx} (h : RequestsHeld ⟨none, d⟩ s)
    (he : s.dwq.find? (fun e => decide (e.cell = c)) = some e) :
    RequestsHeld ⟨some ⟨e.link, e.tag, true⟩, d'⟩ { s with dwq := s.dwq.eraseP fun e => decide (e.cell = c) } := by
  obtain ⟨es, fs, hs, ht⟩ := find?_split he
  refine h.fromBlock rfl rfl (fun k hk => ?_) ?_
  · refine State.atBlocks_perm (extra := []) (extra' := []) rfl rfl ?_
    dsimp only
    rw [ht, hs, deferredTags_ne hk]
  · refine State.atBlocks_perm (extra := []) (extra' := [e.tag]) rfl rfl ?_
    dsimp only
    rw [ht, hs]
    exact ((deferredTags_same es fs e).append_right _).append_right _

theorem RequestsHeld.post {p : ForwardPost} {d' : Option CellIx} (h : RequestsHeld ⟨some ⟨p.link, p.tag, true⟩, d⟩ s) :
    RequestsHeld ⟨none, d'⟩ { s with forwardPosts := s.forwardPosts ++ [p] } := by
  refine h.intoBlock (t := { s with forwardPosts := s.forwardPosts ++ [p] }) rfl rfl (fun k hk => ?_) ?_
  · refine State.atBlocks_perm (extra := []) (extra' := []) rfl rfl ?_
    dsimp only
    rw [postTags_ne hk, List.append_nil]
  · refine State.atBlocks_perm (extra := []) (extra' := [p.tag]) rfl rfl ?_
    have := (postTags_same s.forwardPosts [] p).append_left (deferredTags s.dwq p.link ++ takeTags (takesOf s.queues) p.link)
    rw [List.append_nil] at this
    exact this.trans List.perm_middle

theorem RequestsHeld.unpost {p : ForwardPost} {rest : List ForwardPost} {d' : Option CellIx} (h : RequestsHeld ⟨none, d⟩ s)
    (hp : s.forwardPosts = p :: rest) : RequestsHeld ⟨some ⟨p.link, p.tag, true⟩, d'⟩ { s with forwardPosts := rest } := by
  refine h.fromBlock rfl rfl (fun k hk => ?_) ?_
  · refine State.atBlocks_perm (extra := []) (extra' := []) rfl rfl ?_
    dsimp only
    rw [hp, show postTags (p :: rest) k = postTags rest k from postTags_ne (ps := []) hk rest]
  · refine State.atBlocks_perm (extra := []) (extra' := [p.tag]) rfl rfl ?_
    dsimp only
    rw [hp]
    exact ((postTags_same [] rest p).append_left (deferredTags s.dwq p.link ++ takeTags (takesOf s.queues) p.link)).trans List.perm_middle

theorem postTags_carried (ps : List ForwardPost) (k : Link) : postTags (ps.map fun p => { p with carrying := none }) k = postTags ps k := by
  induction ps with
  | nil => rfl
  | cons p ps ih =>
    simp only [postTags, List.map_cons, List.filter_cons] at ih ⊢
    split <;> simp [ih]

/-! ## Waiting takes -/

theorem takeTags_cons_same (x : WaitingTake) (xs : List WaitingTake) : takeTags (x :: xs) x.link = x.tag :: takeTags xs x.link := by
  simp [takeTags]

theorem takeTags_cons_ne {x : WaitingTake} {k : Link} (h : k ≠ x.link) (xs : List WaitingTake) : takeTags (x :: xs) k = takeTags xs k := by
  simp [takeTags, Ne.symm h]

/-- The requests at the blocks when only the queues change. -/
theorem State.atBlocks_perm_takes {k : Link} {extra extra' : List Tag} (hc : t.cellLines = s.cellLines) (hq : t.queueLines = s.queueLines)
    (hd : t.dwq = s.dwq) (hp : t.forwardPosts = s.forwardPosts)
    (h : (extra ++ takeTags (takesOf t.queues) k).Perm (extra' ++ takeTags (takesOf s.queues) k)) :
    (extra ++ t.atBlocks k).Perm (extra' ++ s.atBlocks k) := by
  refine State.atBlocks_perm hc hq ?_
  rw [hd, hp]
  rw [List.perm_iff_count] at h ⊢
  intro a
  have := h a
  simp only [List.count_append] at this ⊢
  omega

/-- A queue that keeps its waiting take, if it has one, keeps all waiting takes. -/
theorem takesOf_setQueue_kept {q : QueueIx} {d : Queue} (h : QueuesWf s) (ht : (s.queue q).bind Queue.waitingTake = d.waitingTake) :
    (takesOf (s.setQueue q d).queues).Perm (takesOf s.queues) := by
  have hs := takesOf_perm h.1 q
  rw [show findAt s.queues q = s.queue q from rfl, ht] at hs
  exact (takesOf_putAt_perm h.1 q d).trans hs.symm

theorem RequestsHeld.queues (h : RequestsHeld w s) (hlinks : t.links = s.links) (hc : t.cellLines = s.cellLines)
    (hq : t.queueLines = s.queueLines) (hd : t.dwq = s.dwq) (hp : t.forwardPosts = s.forwardPosts) (hs : t.sessions = s.sessions)
    (ht : (takesOf t.queues).Perm (takesOf s.queues)) : RequestsHeld w t :=
  h.unmoved rfl (fun l => by simp [State.link_congr hlinks])
    (fun l => State.atBlocks_perm_takes (extra := []) (extra' := []) hc hq hd hp (takeTags_perm ht l)) fun l => by rw [State.session_congr hs]

theorem RequestsHeld.removeQueue {q : QueueIx} {fs : Vector FaultRecord 8} (h : RequestsHeld w s) (hq : QueuesWf s)
    (ht : (s.queue q).bind Queue.waitingTake = none) : RequestsHeld w { s.removeQueue q with faults := fs } := by
  refine h.queues rfl rfl rfl rfl rfl rfl ?_
  have hs := takesOf_perm hq.1 q
  rw [show findAt s.queues q = s.queue q from rfl, ht] at hs
  exact hs.symm

theorem RequestsHeld.startTake {q : QueueIx} {e : Queue} {x : WaitingTake} (h : RequestsHeld ⟨some ⟨x.link, x.tag, true⟩, d⟩ s) (hw : QueuesWf s)
    (hq : s.queue q = some e) (ht : e.waitingTake = none) : RequestsHeld ⟨none, d⟩ (s.setQueue q { e with waitingTake := some x }) := by
  have hp : (takesOf (s.setQueue q { e with waitingTake := some x }).queues).Perm (x :: takesOf s.queues) := by
    have hs := takesOf_perm hw.1 q
    rw [show findAt s.queues q = s.queue q from rfl, hq, Option.bind_some, ht] at hs
    exact (takesOf_putAt_perm hw.1 q _).trans (hs.symm.cons x)
  refine h.intoBlock (t := s.setQueue q { e with waitingTake := some x }) rfl rfl (fun k hk => ?_) ?_
  · refine State.atBlocks_perm_takes (extra := []) (extra' := []) rfl rfl rfl rfl ?_
    have := takeTags_perm hp k
    rwa [takeTags_cons_ne hk] at this
  · refine State.atBlocks_perm_takes (extra := []) (extra' := [x.tag]) rfl rfl rfl rfl ?_
    have := takeTags_perm hp x.link
    rwa [takeTags_cons_same] at this

theorem RequestsHeld.endTake {q : QueueIx} {e : Queue} {x : WaitingTake} {r : Reply} (h : RequestsHeld w s) (hw : QueuesWf s)
    (hq : s.queue q = some e) (ht : e.waitingTake = some x) (hr : r.tag = x.tag) :
    RequestsHeld w ((s.setQueue q { e with waitingTake := none }).placeReply x.link r) := by
  have hp : (x :: takesOf (s.setQueue q { e with waitingTake := none }).queues).Perm (takesOf s.queues) := by
    have hs := takesOf_perm hw.1 q
    rw [show findAt s.queues q = s.queue q from rfl, hq, Option.bind_some, ht] at hs
    exact ((takesOf_putAt_perm hw.1 q { e with waitingTake := none }).cons x).trans hs.symm
  have hsame : (x.tag :: (s.setQueue q { e with waitingTake := none }).atBlocks x.link).Perm (s.atBlocks x.link) := by
    refine State.atBlocks_perm_takes (extra := [x.tag]) (extra' := []) rfl rfl rfl rfl ?_
    have := takeTags_perm hp x.link
    rwa [takeTags_cons_same] at this
  have hother : ∀ k, k ≠ x.link → ((s.setQueue q { e with waitingTake := none }).atBlocks k).Perm (s.atBlocks k) := fun k hk => by
    refine State.atBlocks_perm_takes (extra := []) (extra' := []) rfl rfl rfl rfl ?_
    have := takeTags_perm hp k
    rwa [takeTags_cons_ne hk] at this
  refine h.replied (l := x.link) (tag := x.tag) rfl ?_ ?_ (fun k hk => State.placeReply_link_ne _ hk r) (fun k hk => ?_) ?_ (fun k hk => ?_) h.attached
  · rw [State.placeReply_link_same, hr]; rfl
  · rw [State.placeReply_link_same, List.length_append]; rfl
  · rw [State.placeReply_outstanding, State.outstanding_eq, State.outstanding_eq]
    exact ((hother k hk).append_left _).append_right _
  · rw [State.placeReply_outstanding, State.outstanding_eq, State.outstanding_eq]
    exact (List.perm_middle.symm.trans (hsame.append_left _)).append_right (w.inHand x.link)
  · have hnil := h.detached k hk
    by_cases hkx : k = x.link
    · subst hkx
      rw [hnil] at hsame
      exact absurd hsame.eq_nil (List.cons_ne_nil _ _)
    · exact (hnil ▸ hother k hkx).eq_nil

/-! ## The end of a session -/

theorem deferredTags_detach_same (es : List DwqEntry) (l : Link) : deferredTags (es.filter fun e => decide (e.link ≠ l)) l = [] := by
  simp [deferredTags, List.filter_filter]

theorem deferredTags_detach_ne (es : List DwqEntry) {l k : Link} (h : k ≠ l) :
    deferredTags (es.filter fun e => decide (e.link ≠ l)) k = deferredTags es k := by
  unfold deferredTags
  rw [List.filter_filter]
  refine congrArg _ (List.filter_congr fun e _ => ?_)
  by_cases he : e.link = k
  · simp [he, h]
  · simp [he]

/-- What unbinding a session's queues leaves of the waiting takes: those of the other owners, each of which is the owner's own (R90). -/
theorem takeTags_unbind {qs : List (QueueIx × Queue)} (hq : ∀ e ∈ qs, ∀ x, e.2.waitingTake = some x → e.2.owner = some x.link) (l k : Link) :
    takeTags (takesOf (qs.map fun e : QueueIx × Queue => (e.1, e.2.unbindFrom l))) k = if k = l then [] else takeTags (takesOf qs) k := by
  induction qs with
  | nil => simp [takesOf, takeTags]
  | cons e qs ih =>
    have ih := ih fun e' he' => hq e' (List.mem_cons_of_mem _ he')
    have howner := hq e List.mem_cons_self
    have hstep : ∀ (f : QueueIx × Queue) (fs : List (QueueIx × Queue)), takesOf (f :: fs) = f.2.waitingTake.toList ++ takesOf fs := fun f fs => by
      cases hf : f.2.waitingTake <;> simp [takesOf, hf]
    have happ : ∀ xs ys, takeTags (xs ++ ys) k = takeTags xs k ++ takeTags ys k := fun xs ys => by simp [takeTags]
    rw [List.map_cons, hstep, hstep, happ, happ, ih]
    cases ht : e.2.waitingTake with
    | none => have : (e.2.unbindFrom l).waitingTake = none := by unfold Queue.unbindFrom; split <;> [rfl; exact ht]
              simp [this, takeTags]
    | some x =>
      have ho := howner x ht
      by_cases hx : x.link = l
      · have : (e.2.unbindFrom l).waitingTake = none := by simp [Queue.unbindFrom, ho, hx]
        rw [this]
        split
        · simp [takeTags]
        · next hk => simp [takeTags, hx, Ne.symm hk]
      · have : (e.2.unbindFrom l).waitingTake = some x := by simp [Queue.unbindFrom, ho, hx, ht]
        rw [this]
        split
        · next hk => simp [takeTags, hk, hx]
        · rfl

theorem QueuesWf.takeOwner (h : QueuesWf s) : ∀ e ∈ s.queues, ∀ x, e.2.waitingTake = some x → e.2.owner = some x.link :=
  fun e he x hx => ((h.2.1 e he).2.2.2.2 x hx).1

theorem State.detach_atBlocks_ne (h : QueuesWf s) {l k : Link} (hk : k ≠ l) : (s.detach l).atBlocks k = s.atBlocks k := by
  rw [State.detach_frame, State.atBlocks_eq, State.atBlocks_eq]
  dsimp only
  rw [deferredTags_detach_ne _ hk, takeTags_unbind h.takeOwner, if_neg hk]
  rfl

theorem State.detach_atBlocks_same (h : QueuesWf s) (l : Link) :
    (s.detach l).atBlocks l = (s.cellLine l).map Waiting.tag ++ (s.queueLine l).map Waiting.tag ++ postTags s.forwardPosts l := by
  rw [State.detach_frame, State.atBlocks_eq]
  dsimp only
  rw [deferredTags_detach_same, takeTags_unbind h.takeOwner, if_pos rfl, List.append_nil, List.append_nil]
  rfl

theorem State.detach_session (s : State) (l k : Link) : (s.detach l).session k = if k = l then none else s.session k := by
  rw [State.detach_frame]; exact getAt_setAt ..

theorem State.detach_unit (s : State) (l k : Link) : ((s.detach l).link k).tags = (s.link k).tags ∧
    ((s.detach l).link k).unhanded = (s.link k).unhanded ∧ ((s.detach l).link k).replies = (s.link k).replies := by
  obtain ⟨a, b, h⟩ := s.detach_link l k
  rw [h]; exact ⟨rfl, rfl, rfl⟩

/-- The session on `l` is gone or was not there; the other links keep what they have. -/
theorem RequestsHeld.gone (h : RequestsHeld w s) (hl : t.session l = none) (hblocks : t.atBlocks l = [])
    (htags : (t.outstanding l ++ w'.inHand l).Subperm (t.link l).tags) (hwindow : (t.link l).tags.length + (t.link l).replies.length ≤ 4)
    (hother : ∀ k, k ≠ l → t.session k = s.session k ∧ t.outstanding k = s.outstanding k ∧ w'.inHand k = w.inHand k ∧ t.atBlocks k = s.atBlocks k ∧
      (t.link k).tags = (s.link k).tags ∧ (t.link k).replies = (s.link k).replies)
    (hattached : ∀ r, w'.request = some r → r.session = false) : RequestsHeld w' t where
  inFlight k := by
    by_cases hk : k = l
    · subst hk; exact htags
    · obtain ⟨_, ho, hw, _, ht, _⟩ := hother k hk
      rw [ho, hw, ht]; exact h.inFlight k
  window k := by
    by_cases hk : k = l
    · subst hk; exact hwindow
    · obtain ⟨_, _, _, _, ht, hr⟩ := hother k hk
      rw [ht, hr]; exact h.window k
  closing k x hx hp := by
    have hk : k ≠ l := by rintro rfl; rw [hl] at hx; cases hx
    obtain ⟨hs, ho, hw, _, ht, _⟩ := hother k hk
    rw [ho, hw, ht]; exact h.closing k x (hs ▸ hx) hp
  detached k hn := by
    by_cases hk : k = l
    · subst hk; exact hblocks
    · obtain ⟨hs, _, _, hb, _⟩ := hother k hk
      rw [hb]; exact h.detached k (hs ▸ hn)
  attached r hr hf := by rw [hattached r hr] at hf; cases hf

theorem RequestsHeld.detach_other (hq : QueuesWf s) {k : Link} (hk : k ≠ l) :
    (s.detach l).session k = s.session k ∧ (s.detach l).outstanding k = s.outstanding k ∧ (s.detach l).atBlocks k = s.atBlocks k ∧
      ((s.detach l).link k).tags = (s.link k).tags ∧ ((s.detach l).link k).replies = (s.link k).replies := by
  obtain ⟨htags, hunhanded, hreplies⟩ := s.detach_unit l k
  have hb := State.detach_atBlocks_ne hq hk
  refine ⟨by rw [State.detach_session, if_neg hk], ?_, hb, htags, hreplies⟩
  rw [State.outstanding_eq, State.outstanding_eq, hunhanded, hb]

theorem RequestsHeld.detachClean {x : Session} (h : RequestsHeld .idle s) (hq : QueuesWf s) (hs : s.session l = some x) (hp : x.phase = .closing)
    (ht : (s.link l).tags = [tag]) : RequestsHeld ⟨some ⟨l, tag, false⟩, none⟩ (s.detach l) := by
  have hlen := h.closing l x hs hp
  rw [ht, Work.inHand_none, List.append_nil] at hlen
  have hnil : s.outstanding l = [] := List.length_eq_zero_iff.mp (by simpa using hlen)
  obtain ⟨htags, hunhanded, hreplies⟩ := s.detach_unit l l
  rw [State.outstanding_eq, List.append_eq_nil_iff, State.atBlocks_eq] at hnil
  obtain ⟨hu, hb⟩ := hnil
  simp only [List.append_eq_nil_iff] at hb
  obtain ⟨⟨⟨⟨hc, hql⟩, _⟩, _⟩, hposts⟩ := hb
  have hblocks : (s.detach l).atBlocks l = [] := by rw [State.detach_atBlocks_same hq, hc, hql, hposts]; rfl
  refine h.gone (l := l) ?_ hblocks ?_ ?_ (fun k hk => ?_) (fun r hr => by cases hr; rfl)
  · rw [State.detach_session, if_pos rfl]
  · rw [State.outstanding_eq, hunhanded, hu, hblocks, htags, ht, Work.inHand_same]; exact .refl _
  · rw [htags, hreplies]; exact h.window l
  · obtain ⟨hsk, ho, hb, htk, hr⟩ := detach_other hq hk
    exact ⟨hsk, ho, Work.inHand_ne hk .., hb, htk, hr⟩

theorem State.emptyLink_other (s : State) {l k : Link} (hk : k ≠ l) (c : LinkCounters) (ended : Option SessionEnded) (entry : Option LinkEntry) :
    (s.emptyLink l c ended entry).outstanding k = s.outstanding k ∧ (s.emptyLink l c ended entry).atBlocks k = s.atBlocks k ∧
      (s.emptyLink l c ended entry).link k = s.link k := by
  have hlink := s.emptyLink_link_ne hk c ended entry
  have hb : (s.emptyLink l c ended entry).atBlocks k = s.atBlocks k := by
    rw [State.emptyLink_frame, State.atBlocks_eq, State.atBlocks_eq]
    simp only [State.cellLine, State.queueLine, getAt_setAt_ne _ hk]
  exact ⟨by rw [State.outstanding_eq, State.outstanding_eq, hlink, hb], hb, hlink⟩

theorem State.emptyLink_blocks (s : State) (l : Link) (c : LinkCounters) (ended : Option SessionEnded) (entry : Option LinkEntry) :
    (s.emptyLink l c ended entry).atBlocks l = deferredTags s.dwq l ++ takeTags (takesOf s.queues) l ++ postTags s.forwardPosts l := by
  rw [State.emptyLink_frame, State.atBlocks_eq]
  simp only [State.cellLine, State.queueLine, getAt_setAt_same, List.map_nil, List.nil_append]

/-- A link is emptied for which nothing waits at the blocks but in its lines. -/
theorem RequestsHeld.emptied {c : LinkCounters} {ended : Option SessionEnded} {entry : Option LinkEntry} {u : State} (h : RequestsHeld .idle s)
    (hl : u.session l = none) (hblocks : (u.emptyLink l c ended entry).atBlocks l = [])
    (hother : ∀ k, k ≠ l → u.session k = s.session k ∧ u.outstanding k = s.outstanding k ∧ u.atBlocks k = s.atBlocks k ∧
      (u.link k).tags = (s.link k).tags ∧ (u.link k).replies = (s.link k).replies) :
    RequestsHeld .idle (u.emptyLink l c ended entry) := by
  refine h.gone (l := l) hl hblocks ?_ ?_ (fun k hk => ?_) nofun
  · rw [State.outstanding_eq, hblocks, State.emptyLink_link_same]; exact .refl _
  · rw [State.emptyLink_link_same]; exact Nat.zero_le _
  · obtain ⟨hs, ho, hb, ht, hr⟩ := hother k hk
    obtain ⟨ho', hb', hlink⟩ := u.emptyLink_other hk c ended entry
    exact ⟨hs, ho'.trans ho, rfl, hb'.trans hb, hlink ▸ ht, hlink ▸ hr⟩

theorem RequestsHeld.detachAbrupt {c : LinkCounters} {ended : Option SessionEnded} {entry : Option LinkEntry} (h : RequestsHeld .idle s)
    (hq : QueuesWf s) (hp : s.forwardPosts = []) : RequestsHeld .idle ((s.detach l).emptyLink l c ended entry) := by
  refine h.emptied ?_ ?_ fun k hk => detach_other hq hk
  · rw [State.detach_session, if_pos rfl]
  · rw [State.emptyLink_blocks, State.detach_frame]
    dsimp only
    rw [deferredTags_detach_same, takeTags_unbind hq.takeOwner, if_pos rfl, hp]; rfl

theorem RequestsHeld.emptyLink {c : LinkCounters} {ended : Option SessionEnded} {entry : Option LinkEntry} (h : RequestsHeld .idle s)
    (hs : s.session l = none) : RequestsHeld .idle (s.emptyLink l c ended entry) := by
  refine h.emptied hs ?_ fun k _ => ⟨rfl, rfl, rfl, rfl, rfl⟩
  have hb := h.detached l hs
  rw [State.atBlocks_eq] at hb
  simp only [List.append_eq_nil_iff] at hb
  obtain ⟨⟨⟨_, hd⟩, ht⟩, hp⟩ := hb
  rw [State.emptyLink_blocks, hd, ht, hp]; rfl

/-! ## Sessions that come and close -/

theorem RequestsHeld.attach {x : Session} (h : RequestsHeld w s) (hp : x.phase = .attached)
    (hsession : t.sessions = (s.setSession l (some x)).sessions) (hblocks : ∀ k, t.atBlocks k = s.atBlocks k)
    (hlink : ∀ k, ∃ a b, t.link k = { s.link k with reports := { (s.link k).reports with role := a, integrity := b } }) : RequestsHeld w t := by
  have hsess : ∀ k, t.session k = if k = l then some x else s.session k := fun k => by
    rw [State.session_congr hsession, State.session_setSession]
  have hunit : ∀ k, (t.link k).tags = (s.link k).tags ∧ (t.link k).unhanded = (s.link k).unhanded ∧ (t.link k).replies = (s.link k).replies :=
    fun k => by obtain ⟨a, b, hk⟩ := hlink k; rw [hk]; exact ⟨rfl, rfl, rfl⟩
  refine h.rearranged (fun k => ?_) (fun k => (hunit k).1) (fun k => by rw [(hunit k).2.2]) (fun k y hy hc => ?_) (fun k hk => ?_) fun r hr hf => ?_
  · rw [State.outstanding_eq, State.outstanding_eq, hblocks, (hunit k).2.1]
  · rw [hsess] at hy
    split at hy
    · cases hy; rw [hp] at hc; cases hc
    · exact ⟨y, hy, hc⟩
  · rw [hsess] at hk
    split at hk
    · cases hk
    · rw [hblocks]; exact h.detached k hk
  · rw [hsess]
    split
    · exact nofun
    · exact h.attached r hr hf

/-- A CLOSE is taken: its session is CLOSING, and its tag stays in flight. -/
theorem RequestsHeld.close {x : Session} (h : RequestsHeld ⟨some ⟨l, tag, b⟩, d⟩ s)
    (hsession : t.sessions = (s.setSession l (some { x with phase := .closing })).sessions) (hblocks : ∀ k, t.atBlocks k = s.atBlocks k)
    (hlink : ∀ k, ∃ a b, t.link k = { s.link k with reports := { (s.link k).reports with role := a, integrity := b } }) :
    RequestsHeld ⟨none, d⟩ t := by
  have hsess : ∀ k, t.session k = if k = l then some { x with phase := .closing } else s.session k := fun k => by
    rw [State.session_congr hsession, State.session_setSession]
  have hunit : ∀ k, (t.link k).tags = (s.link k).tags ∧ (t.link k).unhanded = (s.link k).unhanded ∧ (t.link k).replies = (s.link k).replies :=
    fun k => by obtain ⟨a, b, hk⟩ := hlink k; rw [hk]; exact ⟨rfl, rfl, rfl⟩
  have hout : ∀ k, t.outstanding k = s.outstanding k := fun k => by rw [State.outstanding_eq, State.outstanding_eq, hblocks, (hunit k).2.1]
  have hsub : ∀ k, (t.outstanding k).Subperm (s.outstanding k ++ Work.inHand ⟨some ⟨l, tag, b⟩, d⟩ k) := fun k => by
    rw [hout]; exact (List.sublist_append_left ..).subperm
  refine ⟨fun k => ?_, fun k => ?_, fun k y hy hp => ?_, fun k hk => ?_, nofun⟩
  · rw [Work.inHand_none, List.append_nil, (hunit k).1]; exact (hsub k).trans (h.inFlight k)
  · rw [(hunit k).1, (hunit k).2.2]; exact h.window k
  · rw [Work.inHand_none, List.append_nil, (hunit k).1]
    by_cases hkl : k = l
    · subst hkl
      have := (h.inFlight k).length_le
      rw [Work.inHand_same, List.length_append, List.length_singleton] at this
      rw [hout]; omega
    · rw [hsess, if_neg hkl] at hy
      exact lt_of_le_of_lt (hsub k).length_le (h.closing k y hy hp)
  · rw [hsess] at hk
    split at hk
    · cases hk
    · rw [hblocks]; exact h.detached k hk

theorem RequestsHeld.nothing (hout : ∀ l, t.outstanding l = []) (hunit : ∀ l, (t.link l).tags = [] ∧ (t.link l).replies = [])
    (hs : ∀ l, t.session l = none) : RequestsHeld .idle t where
  inFlight l := by rw [hout]; exact List.nil_subperm
  window l := by rw [(hunit l).1, (hunit l).2]; exact Nat.zero_le _
  closing l x hx := by rw [hs] at hx; cases hx
  detached l _ := (List.append_eq_nil_iff.mp (State.outstanding_eq t l ▸ hout l)).2
  attached := nofun

/-! ## Every move -/

theorem LinkUnit.resetBegun_empty (u : LinkUnit) (back : Clock) : (u.resetBegun back).takeHeldResync.tags = [] ∧
    (u.resetBegun back).takeHeldResync.replies = [] ∧ (u.resetBegun back).takeHeldResync.unhanded = [] := by
  unfold LinkUnit.takeHeldResync; split <;> exact ⟨rfl, rfl, rfl⟩

theorem RequestsHeld.beginReset (scope : Scope) : RequestsHeld .idle (s.beginReset scope) := by
  have hlink : ∀ l, ∃ back, (s.beginReset scope).link l = ((s.link l).resetBegun back).takeHeldResync := fun l =>
    ⟨_, getAt_mapLinks ..⟩
  refine .nothing (fun l => ?_) (fun l => ?_) fun l => getAt_replicate ..
  · obtain ⟨back, hl⟩ := hlink l
    obtain ⟨_, _, hu⟩ := (s.link l).resetBegun_empty back
    rw [State.outstanding_eq, hl, hu, State.atBlocks_eq]
    simp [State.beginReset, State.cellLine, State.queueLine, deferredTags, takeTags, takesOf, postTags]
  · obtain ⟨back, hl⟩ := hlink l
    obtain ⟨ht, hr, _⟩ := (s.link l).resetBegun_empty back
    rw [hl]; exact ⟨ht, hr⟩

theorem RequestsHeld.renew (h : RequestsHeld w s) (l : Link) : RequestsHeld w (s.renewLease l) := by
  refine h.unmoved rfl (fun k => by rw [State.renewLease_frame]; exact ⟨rfl, rfl, le_rfl⟩) (fun k => by rw [State.renewLease_frame]; exact .refl _)
    fun k => ?_
  unfold State.renewLease
  split
  · rfl
  · next x hx =>
    rw [State.session_setSession]
    split
    · next hk => rw [hk, hx]; rfl
    · rfl

theorem RequestsHeld.reports {f : PendingReports → PendingReports} (h : RequestsHeld w s) : RequestsHeld w (s.updReports l f) :=
  h.of_links (fun k => by
    by_cases hk : k = l
    · subst hk; simp [State.updReports, LinkUnit.unhanded]
    · rw [show (s.updReports l f).link k = s.link k from State.updLink_link_ne s hk _]; exact ⟨rfl, rfl, le_rfl⟩) (fun _ => rfl) rfl

theorem RequestsHeld.roleReports (h : RequestsHeld w s)
    (hlink : ∀ k, ∃ a b, t.link k = { s.link k with reports := { (s.link k).reports with role := a, integrity := b } })
    (hblocks : ∀ k, t.atBlocks k = s.atBlocks k) (hs : t.sessions = s.sessions) : RequestsHeld w t :=
  h.of_links (fun k => by obtain ⟨a, b, hk⟩ := hlink k; rw [hk]; exact ⟨rfl, rfl, le_rfl⟩) hblocks hs

theorem RequestsHeld.detect (h : RequestsHeld w s) (c : CellIx) : RequestsHeld w (s.detect c) := by
  refine h.roleReports (fun l => ⟨(s.link l).reports.role, ((s.detect c).link l).reports.integrity, ?_⟩)
    (fun l => by rw [State.detect_eq]; rfl) (by rw [State.detect_eq])
  rw [State.detect_eq]
  cases s.admin with
  | none => rfl
  | some a =>
    by_cases hla : l = a
    · subst hla; simp [State.link]
    · simp [State.link, getAt_setAt_ne _ hla]

theorem Move.requestsHeld (m : Move host w s w' t) (hq : QueuesWf s) (h : RequestsHeld w s) : RequestsHeld w' t := by
  cases m with
  | unit l u hu =>
    refine h.of_links (fun k => ?_) (fun _ => rfl) rfl
    rw [State.withLink_link]
    split
    · next hk => subst hk; exact ⟨hu.tags, by rw [LinkUnit.unhanded, hu.heldFrames, hu.inbox]; rfl, hu.replies⟩
    · exact ⟨rfl, rfl, le_rfl⟩
  | accept _ l tag hfree => exact h.accept hfree
  | holdFrame => exact h.holdFrame
  | intoInbox => exact h.intoInbox
  | fromInbox _ l x rest hi => exact h.fromInbox hi
  | intoCellLine => exact h.intoCellLine
  | fromCellLine _ l x rest hl => exact h.fromCellLine hl
  | intoQueueLine => exact h.intoQueueLine
  | fromQueueLine _ l x rest hl => exact h.fromQueueLine hl
  | answer => exact h.answer
  | defer => exact h.defer
  | post => exact h.post
  | unpost p rest hp => exact h.unpost hp
  | carried => exact h.same rfl (fun k => by rw [State.atBlocks_eq, State.atBlocks_eq, ← postTags_carried s.forwardPosts]; rfl) rfl
  | undefer c e he => exact h.undefer he
  | startDrain | resume | endDrain | pause => exact h.unmoved rfl (fun _ => ⟨rfl, rfl, le_rfl⟩) (fun _ => .refl _) fun _ => rfl
  | setQueue q d ht => exact h.queues rfl rfl rfl rfl rfl rfl (takesOf_setQueue_kept hq ht)
  | endTake q d x r hd ht hr => exact h.endTake hq hd ht hr
  | startTake _ q d x hd ht => exact h.startTake hq hd ht
  | removeQueue _ q ht => exact h.removeQueue hq ht
  | renew _ l => exact h.renew l
  | attach _ l x _ _ _ _ hp =>
    split
    · refine h.attach hp (by rw [State.changeAdmin_frame]) (fun k => by rw [State.changeAdmin_frame]; rfl) fun k => State.changeAdmin_link _ _ k
    · exact h.attach hp rfl (fun _ => rfl) fun k => ⟨_, _, rfl⟩
  | closing _ l x tag b =>
    exact h.close (by rw [State.vacateAdmin_frame]) (fun k => by rw [State.vacateAdmin_frame]; rfl) fun k => State.vacateAdmin_link _ _ k
  | changeAdmin =>
    exact h.roleReports (fun k => State.changeAdmin_link _ _ k) (fun k => by rw [State.changeAdmin_frame]; rfl) (by rw [State.changeAdmin_frame])
  | detachClean l tag x hs hp ht => exact h.detachClean hq hs hp ht
  | detachAbrupt l c ended entry hp => exact h.detachAbrupt hq hp
  | emptyLink _ l c ended entry hx => exact h.emptyLink hx
  | withdraw => exact h.reports
  | sendIntegrity _ l => exact (h.reports (l := l) (f := fun r => { r with integrity := false })).same rfl (fun _ => rfl) rfl
  | beginReset _ scope => exact .beginReset scope
  | detect c => exact h.detect c
  | consume l => exact h.same (by rw [State.consumeEntry_frame]) (fun _ => by rw [State.consumeEntry_frame]; rfl) (by rw [State.consumeEntry_frame])
  | modify c v l => exact h.same (by rw [State.modify_frame]) (fun _ => by rw [State.modify_frame]; rfl) (by rw [State.modify_frame])
  | commit c v l =>
    exact h.same (by rw [State.consumeEntry_frame, State.modify_frame]) (fun _ => by rw [State.consumeEntry_frame, State.modify_frame]; rfl)
      (by rw [State.consumeEntry_frame, State.modify_frame])
  | expire x => exact h.same (by rw [State.expireHold_frame]) (fun _ => by rw [State.expireHold_frame]; rfl) (by rw [State.expireHold_frame])
  | arm _ l c => exact h.same (by rw [State.armed_frame]) (fun _ => by rw [State.armed_frame]; rfl) (by rw [State.armed_frame])
  | _ => exact h.same rfl (fun _ => rfl) rfl

theorem requestsWf_nothing (hl : ∀ l, t.link l = {}) (hb : ∀ l, t.atBlocks l = []) (hs : ∀ l, t.session l = none) : RequestsWf t :=
  (requestsHeld_idle (d := none)).mp (.nothing (fun l => by rw [State.outstanding_eq, hl, hb]; rfl) (fun l => by rw [hl]; exact ⟨rfl, rfl⟩) hs)

theorem requestsWf_reset : RequestsWf State.reset :=
  requestsWf_nothing (fun _ => getAt_replicate ..)
    (fun l => by rw [State.atBlocks_eq]; simp [State.reset, State.cellLine, State.queueLine, deferredTags, takeTags, takesOf, postTags])
    fun _ => getAt_replicate ..

end Sys2Proof.Machine

namespace Sys2Proof.Proofs

open Sys2Proof.Machine

/-- Settles O60: every move keeps the link units, and, with the queues and the request in hand, the requests. -/
theorem stepKeepsTheLinkUnits : Obligations.StepKeepsTheLinkUnits := fun _ _ hl h =>
  ⟨step_keeps (P := fun _ s => LinksWf s) (fun m hl => m.linksWf hl) (fun _ _ h => h) (fun _ _ _ => linksWf_reset) (fun _ _ _ h => h) hl h,
    fun hq hr => requestsHeld_idle.mp
      (step_keeps (P := fun w s => QueuesWf s ∧ RequestsHeld w s) (fun m ⟨hq, hr⟩ => ⟨m.queuesWf hq, m.requestsHeld hq hr⟩)
        (fun _ _ ⟨hq, hr⟩ => ⟨hq, hr.same rfl (fun _ => rfl) rfl⟩)
        (fun _ _ _ => ⟨queuesWf_reset, requestsHeld_idle.mpr requestsWf_reset⟩)
        (fun _ _ _ ⟨hq, hr⟩ => ⟨hq, hr.same rfl (fun _ => rfl) rfl⟩) ⟨hq, requestsHeld_idle.mpr hr⟩ h).2⟩

end Sys2Proof.Proofs
end

section
/-! PROOF. The reservation entries: while an entry is ARMED or HELD its cell has the version it was armed at, and a HELD entry has a STANDING record
(R19, R24, R33, R35, R39). -/

set_option Elab.async false

namespace Sys2Proof.Machine

variable {host : Prop} {w w' : Work} {s t : State}

/-! ## Reading an entry after the operations on it -/

theorem State.entry_setEntry (s : State) (l k : Link) (e : Entry) : (s.setEntry l e).entry k = if k = l then e else s.entry k := getAt_setAt ..

@[simp] theorem State.endHold_entry (s : State) (l k : Link) (c : CellIx) : (s.endHold l c).entry k = s.entry k := by
  rw [State.endHold_frame]; rfl

theorem State.consumeEntry_entries (s : State) (l : Link) :
    (s.consumeEntry l).entries = (s.setEntry l { s.entry l with reservation := .none }).entries := by
  unfold State.consumeEntry
  dsimp only
  split
  · rw [State.endHold_frame]
  · rfl

theorem State.consumeEntry_entry (s : State) (l k : Link) :
    (s.consumeEntry l).entry k = if k = l then { s.entry l with reservation := .none } else s.entry k := by
  rw [State.entry_congr (s.consumeEntry_entries l), State.entry_setEntry]

theorem State.modify_entry (s : State) (c : CellIx) (v : Quad) (l k : Link) (j : Option Link) :
    (s.modify c v l j).entry k = breakEntry c j k (s.entry k) := by
  rw [State.modify_frame]; exact getAt_mapLinks ..

theorem breakEntry_failures (c : CellIx) (j : Option Link) (k : Link) (e : Entry) : (breakEntry c j k e).failures = e.failures := by
  unfold breakEntry; repeat' split
  all_goals rfl

/-! ## The STANDING records of a session on a cell -/

theorem isHoldOf_iff {l : Link} {c : CellIx} {h : HoldRecord} : isHoldOf l c h = true ↔ h.cell = c ∧ h.holder = l ∧ h.stands = true := by
  simp [isHoldOf, and_assoc]

/-- Ending the hold of `l` on `c` leaves every other session's hold and every other cell's. -/
theorem State.endHold_any (s : State) {l k : Link} {c c' : CellIx} (h : k ≠ l ∨ c' ≠ c) :
    (s.endHold l c).holds.any (isHoldOf k c') = s.holds.any (isHoldOf k c') := by
  rw [State.endHold_holds]
  split
  · rw [List.any_map]
    refine congrArg (fun p => s.holds.any p) (funext fun x => ?_)
    simp only [Function.comp_apply]
    split
    · next hx =>
      obtain ⟨hc, hl, _⟩ := isHoldOf_iff.mp hx
      have hf : ∀ ph, isHoldOf k c' ⟨x.cell, x.holder, ph⟩ = false := fun ph => by
        rw [Bool.eq_false_iff]
        intro ht
        obtain ⟨hc', hl', _⟩ := isHoldOf_iff.mp ht
        exact h.elim (fun h => h (hl'.symm.trans hl)) fun h => h (hc'.symm.trans hc)
      rw [hf, ← hf x.phase]
    · rfl
  · rfl

theorem State.consumeEntry_any (s : State) {l k : Link} (h : k ≠ l) (c : CellIx) :
    (s.consumeEntry l).holds.any (isHoldOf k c) = s.holds.any (isHoldOf k c) := by
  unfold State.consumeEntry
  dsimp only
  split
  · rw [State.endHold_any _ (.inl h)]; rfl
  · rfl

theorem State.modify_any (s : State) {c c' : CellIx} (h : c' ≠ c) (v : Quad) (l k : Link) (j : Option Link) :
    (s.modify c v l j).holds.any (isHoldOf k c') = s.holds.any (isHoldOf k c') := by
  rw [(s.modify_holds c v l j).1, State.breakReservations_holds]
  split
  · split
    · exact State.endHold_any _ (.inr h)
    · rfl
  · rfl

/-! ## The entries -/

/-- What ReservationsWf says of the reservation of one session, with its failure count. -/
def Current (s : State) (l : Link) (e : Entry) : Prop :=
  match e.reservation with
  | .armed c v => v = (s.cell c).version
  | .held c v => v = (s.cell c).version ∧ e.failures = 0 ∧ s.holds.any (isHoldOf l c) = true
  | .broken _ => True
  | .none => True

theorem reservationsWf_iff : ReservationsWf s ↔ ∀ l, (s.entry l).failures ≤ 15 ∧ Current s l (s.entry l) := Iff.rfl

theorem Current.congr {l : Link} {e : Entry} (h : Current s l e)
    (hc : ∀ c v, e.reservation = .armed c v ∨ e.reservation = .held c v → (t.cell c).version = (s.cell c).version)
    (hh : ∀ c v, e.reservation = .held c v → s.holds.any (isHoldOf l c) = true → t.holds.any (isHoldOf l c) = true) : Current t l e := by
  unfold Current at h ⊢
  cases hr : e.reservation with
  | armed c v => simp only [hr] at h ⊢; rw [hc c v (.inl hr)]; exact h
  | held c v => simp only [hr] at h ⊢; rw [hc c v (.inr hr)]; exact ⟨h.1, h.2.1, hh c v hr h.2.2⟩
  | broken | none => trivial

theorem current_armed {l : Link} {e : Entry} {c : CellIx} {v : Word} (h : e.reservation = .armed c v) :
    Current s l e ↔ v = (s.cell c).version := by simp [Current, h]

theorem current_held {l : Link} {e : Entry} {c : CellIx} {v : Word} (h : e.reservation = .held c v) :
    Current s l e ↔ v = (s.cell c).version ∧ e.failures = 0 ∧ s.holds.any (isHoldOf l c) = true := by simp [Current, h]

theorem current_none {l : Link} {e : Entry} (h : e.reservation = .none) : Current s l e := by simp [Current, h]

theorem ReservationsWf.congr (h : ReservationsWf s) (he : t.entries = s.entries) (hc : ∀ c, (t.cell c).version = (s.cell c).version)
    (hh : ∀ l c, s.holds.any (isHoldOf l c) = true → t.holds.any (isHoldOf l c) = true) : ReservationsWf t := reservationsWf_iff.mpr fun l => by
  obtain ⟨h15, hcur⟩ := h l
  rw [State.entry_congr he]
  exact ⟨h15, Current.congr hcur (fun c _ _ => hc c) fun c _ _ => hh l c⟩

theorem ReservationsWf.of_eq (h : ReservationsWf s) (he : t.entries = s.entries) (hc : t.cells = s.cells) (hh : t.holds = s.holds) :
    ReservationsWf t := h.congr he (fun c => by rw [State.cell_congr hc]) fun l c => by rw [hh]; exact id

/-- The entry of one session is replaced; cells and the other sessions' holds stay. -/
theorem ReservationsWf.entryAt {l : Link} (h : ReservationsWf s) (hl : (t.entry l).failures ≤ 15 ∧ Current t l (t.entry l))
    (ho : ∀ k, k ≠ l → t.entry k = s.entry k) (hc : ∀ c, (t.cell c).version = (s.cell c).version)
    (hh : ∀ k c, k ≠ l → s.holds.any (isHoldOf k c) = true → t.holds.any (isHoldOf k c) = true) : ReservationsWf t :=
  reservationsWf_iff.mpr fun k => by
    by_cases hk : k = l
    · exact hk ▸ hl
    · obtain ⟨h15, hcur⟩ := h k
      rw [ho k hk]
      exact ⟨h15, Current.congr hcur (fun c _ _ => hc c) fun c _ _ => hh k c hk⟩

theorem ReservationsWf.setEntry {l : Link} {e : Entry} (h : ReservationsWf s) (h15 : e.failures ≤ 15) (he : Current s l e) :
    ReservationsWf (s.setEntry l e) :=
  h.entryAt (l := l) (by rw [State.setEntry_entry_same]; exact ⟨h15, he⟩) (fun _ hk => State.setEntry_entry_ne s hk e) (fun _ => rfl) fun _ _ _ => id

theorem ReservationsWf.consume (h : ReservationsWf s) (l : Link) : ReservationsWf (s.consumeEntry l) := by
  refine h.entryAt (l := l) ?_ (fun k hk => ?_) (fun c => by rw [State.consumeEntry_frame]; rfl) fun k c hk hh => ?_
  · rw [State.consumeEntry_entry, if_pos rfl]
    exact ⟨(h l).1, current_none rfl⟩
  · rw [State.consumeEntry_entry, if_neg hk]
  · rw [s.consumeEntry_any hk]; exact hh

/-- What a modification of `c` leaves current: every reservation but the committer's, those on `c` being BROKEN (R33). -/
theorem Current.modify {k : Link} (h : Current s k (s.entry k)) (c : CellIx) (v : Quad) (l : Link) {j : Option Link} (hj : j ≠ some k) :
    Current (s.modify c v l j) k ((s.modify c v l j).entry k) := by
  have hcell : ∀ c', c' ≠ c → ((s.modify c v l j).cell c').version = (s.cell c').version := fun c' hc' => by
    rw [State.modify_frame]
    exact congrArg Cell.version ((State.cell_congr rfl c').trans (State.setCell_cell_ne s hc' _))
  rw [State.modify_entry]
  unfold breakEntry
  rw [if_neg hj]
  split
  · next c' w hr =>
    split
    · exact trivial
    · next hc => exact h.congr (fun d x hd => by rw [hr] at hd; rcases hd with hd | hd <;> cases hd; exact hcell _ hc) fun d x hd => by rw [hr] at hd; cases hd
  · next c' w hr =>
    split
    · exact trivial
    · next hc =>
      refine h.congr (fun d x hd => ?_) fun d x hd hh => ?_
      · rw [hr] at hd
        rcases hd with hd | hd <;> cases hd
        exact hcell _ hc
      · rw [hr] at hd
        cases hd
        rw [s.modify_any hc]; exact hh
  · next ha hh => exact h.congr (fun d x hd => hd.elim (fun hd => absurd hd (ha d x)) fun hd => absurd hd (hh d x)) fun d x hd => absurd hd (hh d x)

theorem ReservationsWf.modify (h : ReservationsWf s) (c : CellIx) (v : Quad) (l : Link) : ReservationsWf (s.modify c v l none) :=
  reservationsWf_iff.mpr fun k => by
    obtain ⟨h15, hcur⟩ := h k
    exact ⟨by rw [State.modify_entry, breakEntry_failures]; exact h15, Current.modify hcur c v l nofun⟩

theorem ReservationsWf.commit (h : ReservationsWf s) (c : CellIx) (v : Quad) (l : Link) : ReservationsWf ((s.modify c v l (some l)).consumeEntry l) :=
  reservationsWf_iff.mpr fun k => by
    obtain ⟨h15, hcur⟩ := h k
    rw [State.consumeEntry_entry]
    split
    · next hk => rw [State.modify_entry, breakEntry_failures, ← hk]; exact ⟨h15, current_none rfl⟩
    · next hk =>
      refine ⟨by rw [State.modify_entry, breakEntry_failures]; exact h15, ?_⟩
      refine (Current.modify hcur c v l fun hj => hk (Option.some.inj hj).symm).congr (fun d _ _ => by rw [State.consumeEntry_frame]; rfl) fun d _ _ hh => ?_
      rw [State.consumeEntry_any _ hk]; exact hh

/-! ## RESERVE and the expiry of a hold -/

/-- Whether a RESERVE that passes its checks earns a hold, its session's old entry gone (R24). -/
def State.grants (s : State) (l : Link) (c : CellIx) : Bool := (s.consumeEntry l).earnsHold l c

theorem State.armed_eq (s : State) (l : Link) (c : CellIx) :
    s.armed l c =
      if s.grants l c then ((s.consumeEntry l).setEntry l ⟨.held c (s.cell c).version, 0⟩).grantHold l c
      else (s.consumeEntry l).setEntry l ⟨.armed c (s.cell c).version, (s.entry l).failures⟩ := by
  have hf : ((s.consumeEntry l).entry l).failures = (s.entry l).failures := by rw [State.consumeEntry_reservation]
  have hg : ((s.consumeEntry l).setEntry l ⟨.armed c (s.cell c).version, (s.entry l).failures⟩).earnsHold l c = s.grants l c := by
    simp only [State.grants, State.earnsHold, State.setEntry_entry_same, hf]; rfl
  have hset : ∀ (u : State) (e e' : Entry), (u.setEntry l e).setEntry l e' = u.setEntry l e' := fun u e e' => by simp [State.setEntry]
  unfold State.armed
  dsimp only
  rw [hf, hg, hset]

theorem State.armed_entry (s : State) (l k : Link) (c : CellIx) :
    (s.armed l c).entry k =
      if k = l then (if s.grants l c then ⟨.held c (s.cell c).version, 0⟩ else ⟨.armed c (s.cell c).version, (s.entry l).failures⟩)
      else s.entry k := by
  have hset : ∀ e : Entry, ((s.consumeEntry l).setEntry l e).entry k = if k = l then e else s.entry k := fun e => by
    rw [State.entry_setEntry, State.consumeEntry_entry]; split <;> rfl
  rw [State.armed_eq]
  split
  · exact hset _
  · exact hset _

theorem State.armed_holds (s : State) (l : Link) (c : CellIx) :
    (s.armed l c).holds =
      if s.grants l c then (s.consumeEntry l).holds ++ [⟨c, l, .standing (later s.clock s.config.limit)⟩] else (s.consumeEntry l).holds := by
  have hclock : (s.consumeEntry l).clock = s.clock := by rw [State.consumeEntry_frame]
  have hconfig : (s.consumeEntry l).config = s.config := by rw [State.consumeEntry_frame]
  rw [State.armed_eq, ← hclock, ← hconfig]
  split <;> rfl

/-- An entry HELD on a cell whose hold has expired is ARMED (R34). -/
def downgraded (c : CellIx) (e : Entry) : Entry :=
  match e.reservation with
  | .held c' v => if c' = c then { e with reservation := .armed c' v } else e
  | _ => e

theorem State.expireHold_entry (s : State) (x : HoldRecord) (k : Link) :
    (s.expireHold x).entry k = if k = x.holder then downgraded x.cell (s.entry x.holder) else s.entry k := by
  have he := fun k => s.endHold_entry x.holder k x.cell
  unfold State.expireHold
  dsimp only
  rw [he]
  by_cases hk : k = x.holder
  · subst hk
    rw [if_pos rfl]
    unfold downgraded
    cases (s.entry x.holder).reservation with
    | held c v =>
      by_cases hc : c = x.cell
      · simp only [if_pos hc]; exact State.setEntry_entry_same (s.endHold x.holder x.cell) x.holder _
      · simp only [if_neg hc]; exact he _
    | _ => exact he _
  · rw [if_neg hk]
    split
    · split
      · exact (State.setEntry_entry_ne (s.endHold x.holder x.cell) hk _).trans (he k)
      · exact he k
    · exact he k

/-- The entry that a RESERVE arms has the cell's version, and the STANDING record that it may have earned (R23, R24). -/
theorem ReservationsWf.arm (h : ReservationsWf s) (l : Link) (c : CellIx) : ReservationsWf (s.armed l c) := by
  have hcell : ∀ k, (s.armed l c).cell k = s.cell k := fun k => by rw [State.armed_frame]; rfl
  have hholds := s.armed_holds l c
  refine h.entryAt (l := l) ?_ (fun k hk => by rw [State.armed_entry, if_neg hk]) (fun c => by rw [hcell]) fun k d hk hh => ?_
  · rw [State.armed_entry, if_pos rfl]
    split
    · next hg =>
      refine ⟨Nat.zero_le _, (current_held rfl).mpr ⟨by rw [hcell], rfl, ?_⟩⟩
      rw [hholds, if_pos hg, List.any_append]
      simp [isHoldOf, HoldRecord.stands]
    · exact ⟨(h l).1, (current_armed rfl).mpr (by rw [hcell])⟩
  · rw [hholds, ← s.consumeEntry_any hk] at *
    split
    · rw [List.any_append, hh]; rfl
    · exact hh

/-- The holder of a hold that expires has its entry ARMED again, at the same version (R34). -/
theorem ReservationsWf.expire (h : ReservationsWf s) (x : HoldRecord) : ReservationsWf (s.expireHold x) := by
  have hholds : (s.expireHold x).holds = (s.endHold x.holder x.cell).holds := by rw [State.expireHold_frame]
  have hcell : ∀ c, (s.expireHold x).cell c = s.cell c := fun c => by rw [State.expireHold_frame]; rfl
  refine h.entryAt (l := x.holder) ?_ (fun k hk => by rw [State.expireHold_entry, if_neg hk]) (fun c => by rw [hcell]) fun k c hk hh => ?_
  · obtain ⟨h15, hcur⟩ := h x.holder
    rw [State.expireHold_entry, if_pos rfl]
    unfold downgraded
    split
    · next c v hr =>
      obtain ⟨hv, h0, hany⟩ := (current_held hr).mp hcur
      split
      · exact ⟨h15, (current_armed rfl).mpr (by rw [hcell]; exact hv)⟩
      · next hc => exact ⟨h15, (current_held hr).mpr ⟨by rw [hcell]; exact hv, h0, by rw [hholds, s.endHold_any (.inr hc)]; exact hany⟩⟩
    · next hr =>
      exact ⟨h15, Current.congr (s := s) hcur (fun c _ _ => by rw [hcell]) fun c v hc => absurd hc (hr c v)⟩
  · rw [hholds, s.endHold_any (.inl hk)]; exact hh

theorem Move.reservationsWf (m : Move host w s w' t) (h : ReservationsWf s) : ReservationsWf t := by
  cases m with
  | cell _ c x hx =>
    refine h.congr rfl (fun k => ?_) fun _ _ => id
    rw [State.setCell_cell]
    split
    · next hk => rw [hk]; exact hx
    · rfl
  | detect c =>
    refine h.congr (by rw [State.detect_eq]) (fun k => ?_) (fun _ _ => by rw [State.detect_eq]; exact id)
    by_cases hk : k = c
    · rw [hk, State.detect_cell_same]
    · rw [State.detect_cell_ne s hk]
  | consume l => exact h.consume l
  | failures l n hn => exact h.setEntry (hn.elim id fun hn => le_trans hn (h l).1) (current_none rfl)
  | freshEntry _ l => exact h.setEntry (Nat.zero_le _) (current_none rfl)
  | arm _ l c => exact h.arm l c
  | modify c v l => exact h.modify c v l
  | commit c v l => exact h.commit c v l
  | expire x => exact h.expire x
  | startDrain c rest =>
    refine h.congr rfl (fun _ => rfl) fun l d hh => ?_
    obtain ⟨x, hx, hi⟩ := List.any_eq_true.mp hh
    exact List.any_eq_true.mpr ⟨x, List.mem_filter.mpr ⟨hx, by simp [(isHoldOf_iff.mp hi).2.2]⟩, hi⟩
  | renew _ l => rw [State.renewLease_frame]; exact h.of_eq rfl rfl rfl
  | attach => split <;> [rw [State.changeAdmin_frame]; skip] <;> exact h.of_eq rfl rfl rfl
  | closing => rw [State.vacateAdmin_frame]; exact h.of_eq rfl rfl rfl
  | changeAdmin => rw [State.changeAdmin_frame]; exact h.of_eq rfl rfl rfl
  | detachClean => rw [State.detach_frame]; exact h.of_eq rfl rfl rfl
  | detachAbrupt => rw [State.emptyLink_frame, State.detach_frame]; exact h.of_eq rfl rfl rfl
  | beginReset _ scope =>
    refine reservationsWf_iff.mpr fun l => ?_
    have he : (s.beginReset scope).entry l = {} := getAt_replicate ..
    rw [he]
    exact ⟨Nat.zero_le _, trivial⟩
  | _ => exact h

theorem reservationsWf_reset : ReservationsWf State.reset := reservationsWf_iff.mpr fun l => by
  have he : State.reset.entry l = {} := getAt_replicate ..
  rw [he]; exact ⟨Nat.zero_le _, trivial⟩

end Sys2Proof.Machine
end

section
/-! PROOF. The hold unit and its queue: the hold records, the drains and the DWQ agree with the reservation entries and with the operation in progress
(R4, R20, R39, R41, R61, R80). -/

set_option Elab.async false

namespace Sys2Proof.Machine

variable {host : Prop} {w w' : Work} {s t : State} {l : Link} {c : CellIx}

/-! ## The records -/

theorem HoldRecord.stands_iff {h : HoldRecord} : h.stands = true ↔ ∃ d, h.phase = .standing d := by
  unfold HoldRecord.stands; cases h.phase <;> simp

/-- The hold records and the pending drains: one record a cell and one a link, and a drain for each ENDED record. -/
structure HoldTable (holds : List HoldRecord) (drains : List CellIx) : Prop where
  distinct : holds.Pairwise (fun a b => a.cell ≠ b.cell ∧ a.holder ≠ b.holder)
  once : drains.Nodup
  ended : ∀ c, c ∈ drains ↔ ∃ h ∈ holds, h.cell = c ∧ h.phase = .ended

theorem HoldTable.unique {holds : List HoldRecord} {drains : List CellIx} (ht : HoldTable holds drains) {a b : HoldRecord} (ha : a ∈ holds)
    (hb : b ∈ holds) (h : a.cell = b.cell ∨ a.holder = b.holder) : a = b := by
  by_contra hne
  have : Std.Symm fun a b : HoldRecord => a.cell ≠ b.cell ∧ a.holder ≠ b.holder := ⟨fun _ _ h => ⟨Ne.symm h.1, Ne.symm h.2⟩⟩
  obtain ⟨hc, hl⟩ := ht.distinct.forall ha hb hne
  exact h.elim hc hl

/-- The session of a STANDING record holds the cell. -/
theorem HoldTable.holderOf (ht : HoldTable s.holds s.drains) {x : HoldRecord} (hx : x ∈ s.holds) (hs : x.stands = true) :
    s.holderOf x.cell = some x.holder := by
  unfold State.holderOf
  cases hf : s.holds.find? fun h => decide (h.cell = x.cell) && h.stands with
  | none => simpa [hs] using List.find?_eq_none.mp hf x hx
  | some y =>
    have hy := List.find?_some hf
    simp only [Bool.and_eq_true, decide_eq_true_eq] at hy
    rw [ht.unique (List.mem_of_find?_eq_some hf) hx (.inl hy.1)]; rfl

theorem State.endHold_cells (s : State) (l : Link) (c : CellIx) : (s.endHold l c).holds.map HoldRecord.cell = s.holds.map HoldRecord.cell := by
  rw [State.endHold_holds]
  split
  · rw [List.map_map]
    refine List.map_congr_left fun x _ => ?_
    simp only [Function.comp_apply]; split <;> rfl
  · rfl

/-- What still stands after the hold of `l` on `c` has ended stood before and is another's. -/
theorem State.endHold_standing {x : HoldRecord} (hx : x ∈ (s.endHold l c).holds) (hs : x.stands = true) :
    x ∈ s.holds ∧ isHoldOf l c x = false := by
  rw [State.endHold_holds] at hx
  split at hx
  · obtain ⟨y, hy, rfl⟩ := List.mem_map.mp hx
    by_cases hi : isHoldOf l c y = true
    · simp [hi, HoldRecord.stands] at hs
    · rw [if_neg hi]
      exact ⟨hy, Bool.eq_false_iff.mpr hi⟩
  · next ha =>
    rw [Bool.not_eq_true, List.any_eq_false] at ha
    exact ⟨hx, Bool.eq_false_iff.mpr (ha x hx)⟩

theorem HoldTable.endHold (ht : HoldTable s.holds s.drains) (l : Link) (c : CellIx) :
    HoldTable (s.endHold l c).holds (s.endHold l c).drains := by
  by_cases ha : s.holds.any (isHoldOf l c) = true
  · obtain ⟨x, hx, hi⟩ := List.any_eq_true.mp ha
    obtain ⟨hc, hl, hs⟩ := isHoldOf_iff.mp hi
    have hnot : c ∉ s.drains := fun hm => by
      obtain ⟨y, hy, hyc, hye⟩ := (ht.ended c).mp hm
      have := ht.unique hx hy (.inl (hc.trans hyc.symm))
      rw [this, HoldRecord.stands, hye] at hs
      cases hs
    rw [State.endHold_of_stands ha]
    refine ⟨?_, ?_, fun k => ?_⟩
    · refine List.pairwise_map.mpr (ht.distinct.imp fun {a b} h => ?_)
      split <;> split <;> exact h
    · exact List.nodup_append.mpr ⟨ht.once, List.nodup_singleton c, fun a ha b hb hab => hnot ((List.mem_singleton.mp hb) ▸ hab ▸ ha)⟩
    · rw [List.mem_append, List.mem_singleton, ht.ended k]
      constructor
      · rintro (⟨y, hy, hyc, hye⟩ | rfl)
        · have hyi : isHoldOf l c y = false := Bool.eq_false_iff.mpr fun h => by
            have := (isHoldOf_iff.mp h).2.2
            rw [HoldRecord.stands, hye] at this
            cases this
          exact ⟨y, List.mem_map.mpr ⟨y, hy, by simp [hyi]⟩, hyc, hye⟩
        · exact ⟨{ x with phase := .ended }, List.mem_map.mpr ⟨x, hx, by simp [hi]⟩, hc, rfl⟩
      · rintro ⟨y, hy, hyc, hye⟩
        obtain ⟨z, hz, rfl⟩ := List.mem_map.mp hy
        by_cases hzi : isHoldOf l c z = true
        · simp only [hzi, if_true] at hyc
          exact .inr (hyc.symm.trans (isHoldOf_iff.mp hzi).1)
        · simp only [hzi, Bool.false_eq_true, if_false] at hyc hye
          exact .inl ⟨z, hz, hyc, hye⟩
  · rw [State.endHold_of_none (Bool.not_eq_true _ ▸ ha)]; exact ht

/-! ## The operations that end holds -/

theorem State.consumeEntry_holds (s : State) (l : Link) :
    ((∃ c v, (s.entry l).reservation = .held c v ∧ (s.consumeEntry l).holds = (s.endHold l c).holds ∧
      (s.consumeEntry l).drains = (s.endHold l c).drains)) ∨
    ((∀ c v, (s.entry l).reservation ≠ .held c v) ∧ (s.consumeEntry l).holds = s.holds ∧ (s.consumeEntry l).drains = s.drains) := by
  by_cases h : ∃ c v, (s.entry l).reservation = .held c v
  · obtain ⟨c, v, h⟩ := h
    rw [State.consumeEntry_of_held h]
    refine .inl ⟨c, v, h, ?_, ?_⟩
    · rw [State.endHold_holds, State.endHold_holds]; rfl
    · rw [State.endHold_drains, State.endHold_drains]; rfl
  · have h : ∀ c v, (s.entry l).reservation ≠ .held c v := fun c v hr => h ⟨c, v, hr⟩
    rw [State.consumeEntry_of_not_held h]
    exact .inr ⟨h, rfl, rfl⟩

/-- A modification ends the hold of the cell's holder, unless the holder's COMMIT is the modification. -/
theorem State.modify_holds_cases (s : State) (c : CellIx) (v : Quad) (l : Link) (k : Option Link) :
    (∃ j, s.holderOf c = some j ∧ k ≠ some j ∧ heldOn c (s.entry j) = true ∧ (s.modify c v l k).holds = (s.endHold j c).holds ∧
      (s.modify c v l k).drains = (s.endHold j c).drains) ∨
    ((∀ j, s.holderOf c = some j → k ≠ some j → heldOn c (s.entry j) = false) ∧ (s.modify c v l k).holds = s.holds ∧
      (s.modify c v l k).drains = s.drains) := by
  obtain ⟨hh, hd⟩ := s.modify_holds c v l k
  rw [State.breakReservations_holds] at hh
  rw [State.breakReservations_drains] at hd
  cases hj : s.holderOf c with
  | none =>
    simp only [hj] at hh hd
    exact .inr ⟨nofun, hh, hd⟩
  | some j =>
    simp only [hj] at hh hd
    by_cases hc : k ≠ some j ∧ heldOn c (s.entry j) = true
    · rw [if_pos hc] at hh hd
      exact .inl ⟨j, rfl, hc.1, hc.2, hh, hd⟩
    · rw [if_neg hc] at hh hd
      refine .inr ⟨fun i hi hk => ?_, hh, hd⟩
      cases hi
      exact Bool.eq_false_iff.mpr fun h => hc ⟨hk, h⟩

/-! ## The parts of the invariant -/

/-- The session of every STANDING record is HELD on the record's cell. -/
def HoldersHeld (s : State) : Prop := ∀ h ∈ s.holds, h.stands = true → ∃ v, (s.entry h.holder).reservation = .held h.cell v

/-- A DETACHED link has no reservation. -/
def DetachedFree (s : State) : Prop := ∀ l, s.session l = none → (s.entry l).reservation = .none

/-- The DWQ, its high-water mark, and the operation in progress, with the drain that goes on in hand. -/
structure DeferralsWf (w : Work) (s : State) : Prop where
  marked : s.dwq.length ≤ s.counters.highWater
  size : s.counters.highWater ≤ 32
  held : ∀ e ∈ s.dwq, (∃ h ∈ s.holds, h.cell = e.cell) ∨ (∃ p ∈ s.forwardPosts, p.resume = some e.cell) ∨ s.draining = some e.cell ∨
    w.drain = some e.cell
  onePost : s.forwardPosts.length ≤ 1
  oneOperation : s.forwardPosts ≠ [] → s.draining = none
  inHand : w.drain ≠ none → s.forwardPosts = [] ∧ s.draining = none

/-- HoldsWf of a state in the middle of an event. -/
structure HoldsHeld (w : Work) (s : State) : Prop where
  table : HoldTable s.holds s.drains
  holders : HoldersHeld s
  detached : DetachedFree s
  deferrals : DeferralsWf w s

theorem holdsHeld_idle {r : Option Taken} : HoldsHeld ⟨r, none⟩ s ↔ HoldsWf s := by
  constructor
  · rintro ⟨⟨hp, hn, he⟩, hh, hd, ⟨hm, h32, hheld, h1, ho, _⟩⟩
    refine ⟨hp, fun h hm d hs => hh h hm (HoldRecord.stands_iff.mpr ⟨d, hs⟩), hn, he, hd, hm, h32, fun e hm => ?_, h1, ho⟩
    rcases hheld e hm with h | h | h | h
    · exact .inl h
    · exact .inr (.inl h)
    · exact .inr (.inr h)
    · cases h
  · rintro ⟨hp, hh, hn, he, hd, hm, h32, hheld, h1, ho⟩
    refine ⟨⟨hp, hn, he⟩, fun h hm hs => ?_, hd, ⟨hm, h32, fun e hm => ?_, h1, ho, fun h => absurd rfl h⟩⟩
    · obtain ⟨d, hs⟩ := HoldRecord.stands_iff.mp hs
      exact hh h hm d hs
    · rcases hheld e hm with h | h | h
      · exact .inl h
      · exact .inr (.inl h)
      · exact .inr (.inr (.inl h))

/-- The holders after the hold of `l` on `c` has ended, when the other HELD entries stay HELD. -/
theorem HoldersHeld.endHold (h : HoldersHeld s) (hh : t.holds = (s.endHold l c).holds)
    (he : ∀ k c' v, (s.entry k).reservation = .held c' v → (k ≠ l ∨ c' ≠ c) → ∃ v', (t.entry k).reservation = .held c' v') : HoldersHeld t := by
  intro x hx hs
  rw [hh] at hx
  obtain ⟨hm, hi⟩ := State.endHold_standing hx hs
  obtain ⟨v, hv⟩ := h x hm hs
  refine he _ _ v hv ?_
  by_contra hn
  rw [not_or, not_not, not_not] at hn
  rw [isHoldOf_iff.mpr ⟨hn.2, hn.1, hs⟩] at hi
  cases hi

theorem HoldersHeld.congr (h : HoldersHeld s) (hh : t.holds = s.holds)
    (he : ∀ k c v, (s.entry k).reservation = .held c v → (t.entry k).reservation = .held c v) : HoldersHeld t := by
  intro x hx hs
  obtain ⟨v, hv⟩ := h x (hh ▸ hx) hs
  exact ⟨v, he _ _ _ hv⟩

theorem HoldersHeld.consume (h : HoldersHeld s) (l : Link) : HoldersHeld (s.consumeEntry l) := by
  rcases s.consumeEntry_holds l with ⟨c, v, hr, hh, _⟩ | ⟨hr, hh, _⟩
  · refine h.endHold hh fun k c' v' hk hne => ⟨v', ?_⟩
    have hkl : k ≠ l := by
      rintro rfl
      rw [hr] at hk
      cases hk
      exact hne.elim (fun h => h rfl) fun h => h rfl
    rw [State.consumeEntry_entry, if_neg hkl]; exact hk
  · refine h.congr hh fun k c v hk => ?_
    have hkl : k ≠ l := by rintro rfl; exact hr c v hk
    rw [State.consumeEntry_entry, if_neg hkl]; exact hk

theorem breakEntry_held {j : Option Link} {k : Link} {e : Entry} {c' : CellIx} {v : Word} (h : e.reservation = .held c' v)
    (hc : c' ≠ c ∨ j = some k) : (breakEntry c j k e).reservation = .held c' v := by
  unfold breakEntry
  split
  · exact h
  · next hj => simp only [h, if_neg (hc.resolve_right hj)]

theorem breakEntry_none {j : Option Link} {k : Link} {e : Entry} (h : e.reservation = .none) : (breakEntry c j k e).reservation = .none := by
  unfold breakEntry
  split
  · exact h
  · simp only [h]

theorem HoldersHeld.modify (h : HoldersHeld s) (ht : HoldTable s.holds s.drains) (c : CellIx) (v : Quad) (l : Link) (j : Option Link) :
    HoldersHeld (s.modify c v l j) := by
  intro x hx hs
  have hmem : x ∈ s.holds ∧ (x.cell ≠ c ∨ j = some x.holder) := by
    rcases s.modify_holds_cases c v l j with ⟨i, hi, hj, hheld, hh, _⟩ | ⟨hnone, hh, _⟩
    · rw [hh] at hx
      obtain ⟨hm, hf⟩ := State.endHold_standing hx hs
      refine ⟨hm, .inl fun hc => ?_⟩
      have := ht.holderOf hm hs
      rw [hc, hi] at this
      cases this
      rw [isHoldOf_iff.mpr ⟨hc, rfl, hs⟩] at hf
      cases hf
    · rw [hh] at hx
      refine ⟨hx, ?_⟩
      by_contra hn
      rw [not_or, not_not] at hn
      obtain ⟨w, hw⟩ := h x hx hs
      have := hnone x.holder (hn.1 ▸ ht.holderOf hx hs) hn.2
      simp [heldOn, hw, hn.1] at this
  obtain ⟨hm, hc⟩ := hmem
  obtain ⟨w, hw⟩ := h x hm hs
  exact ⟨w, by rw [State.modify_entry]; exact breakEntry_held hw hc⟩

theorem HoldersHeld.expire (h : HoldersHeld s) (x : HoldRecord) : HoldersHeld (s.expireHold x) := by
  refine h.endHold (l := x.holder) (c := x.cell) (by rw [State.expireHold_frame]) fun k c' v hk hne => ⟨v, ?_⟩
  rw [State.expireHold_entry]
  split
  · next hkl =>
    subst hkl
    unfold downgraded
    simp only [hk, if_neg (hne.resolve_left fun h => h rfl)]
  · exact hk

/-- The DWQ and the operation in progress stay; a cell with a hold record keeps one. -/
theorem DeferralsWf.congr (h : DeferralsWf w s) (hw : w'.drain = w.drain) (hq : t.dwq.Sublist s.dwq) (hm : t.counters.highWater = s.counters.highWater)
    (hh : ∀ c, (∃ h ∈ s.holds, h.cell = c) → ∃ h ∈ t.holds, h.cell = c) (hp : t.forwardPosts = s.forwardPosts) (hd : t.draining = s.draining) :
    DeferralsWf w' t where
  marked := by rw [hm]; exact le_trans hq.length_le h.marked
  size := hm ▸ h.size
  held e he := by
    rw [hp, hd, hw]
    exact (h.held e (hq.subset he)).imp_left (hh e.cell)
  onePost := hp ▸ h.onePost
  oneOperation hne := by rw [hd]; exact h.oneOperation (hp ▸ hne)
  inHand hne := by rw [hp, hd]; exact h.inHand (hw ▸ hne)

theorem holds_of_cells {holds holds' : List HoldRecord} (h : holds'.map HoldRecord.cell = holds.map HoldRecord.cell) (c : CellIx)
    (hc : ∃ h ∈ holds, h.cell = c) : ∃ h ∈ holds', h.cell = c := by
  rwa [← List.mem_map, h, List.mem_map]

/-! ## The operations on the whole -/

/-- The hold records, entries, drains, the DWQ, the operation in progress and its mark are as they were; a session that is DETACHED was so. -/
theorem HoldsHeld.congr (h : HoldsHeld w s) (hw : w'.drain = w.drain) (hh : t.holds = s.holds) (hdr : t.drains = s.drains)
    (he : ∀ l, (t.entry l).reservation = (s.entry l).reservation)
    (hs : ∀ l, t.session l = none → s.session l = none ∨ (s.entry l).reservation = .none)
    (hq : t.dwq.Sublist s.dwq) (hm : t.counters.highWater = s.counters.highWater) (hp : t.forwardPosts = s.forwardPosts)
    (hd : t.draining = s.draining) : HoldsHeld w' t where
  table := by rw [hh, hdr]; exact h.table
  holders := h.holders.congr hh fun k c v hk => by rw [he]; exact hk
  detached l hl := by
    rw [he]; exact (hs l hl).elim (h.detached l) id
  deferrals := h.deferrals.congr hw hq hm (fun c hc => by rw [hh]; exact hc) hp hd

theorem HoldsHeld.of_eq (h : HoldsHeld w s) (hw : w'.drain = w.drain) (hh : t.holds = s.holds) (hdr : t.drains = s.drains)
    (he : t.entries = s.entries) (hs : t.sessions = s.sessions) (hq : t.dwq = s.dwq) (hm : t.counters.highWater = s.counters.highWater)
    (hp : t.forwardPosts = s.forwardPosts) (hd : t.draining = s.draining) : HoldsHeld w' t :=
  h.congr hw hh hdr (fun l => by rw [State.entry_congr he]) (fun l hl => .inl (State.session_congr hs l ▸ hl)) (hq ▸ .refl _) hm hp hd

/-- An operation that ends one hold, or none, and leaves no reservation that was not there. -/
theorem HoldsHeld.ending (h : HoldsHeld w s) (hh : HoldersHeld t)
    (ht : (∃ l c, t.holds = (s.endHold l c).holds ∧ t.drains = (s.endHold l c).drains) ∨ t.holds = s.holds ∧ t.drains = s.drains)
    (he : ∀ k, (s.entry k).reservation = .none → (t.entry k).reservation = .none) (hs : t.sessions = s.sessions) (hq : t.dwq = s.dwq)
    (hm : t.counters.highWater = s.counters.highWater) (hp : t.forwardPosts = s.forwardPosts) (hd : t.draining = s.draining) :
    HoldsHeld w t where
  table := by
    rcases ht with ⟨l, c, hh, hdr⟩ | ⟨hh, hdr⟩ <;> rw [hh, hdr]
    · exact h.table.endHold l c
    · exact h.table
  holders := hh
  detached l hl := he l (h.detached l (State.session_congr hs l ▸ hl))
  deferrals := by
    refine h.deferrals.congr rfl (hq ▸ .refl _) hm (fun c hc => ?_) hp hd
    rcases ht with ⟨l, k, hh, _⟩ | ⟨hh, _⟩ <;> rw [hh]
    · exact holds_of_cells (s.endHold_cells l k) c hc
    · exact hc

theorem HoldsHeld.consume (h : HoldsHeld w s) (l : Link) : HoldsHeld w (s.consumeEntry l) := by
  refine h.ending (h.holders.consume l) ?_ (fun k hk => ?_) (by rw [State.consumeEntry_frame]) (by rw [State.consumeEntry_frame])
    (by rw [State.consumeEntry_frame]) (by rw [State.consumeEntry_frame]) (by rw [State.consumeEntry_frame])
  · exact (s.consumeEntry_holds l).imp (fun ⟨c, _, _, hh, hd⟩ => ⟨l, c, hh, hd⟩) And.right
  · rw [State.consumeEntry_entry]
    split
    · rfl
    · exact hk

theorem HoldsHeld.modify (h : HoldsHeld w s) (c : CellIx) (v : Quad) (l : Link) (k : Option Link) : HoldsHeld w (s.modify c v l k) := by
  refine h.ending (h.holders.modify h.table c v l k) ?_ (fun i hi => ?_) (by rw [State.modify_frame]) (by rw [State.modify_frame])
    (by rw [State.modify_frame]) (by rw [State.modify_frame]) (by rw [State.modify_frame])
  · exact (s.modify_holds_cases c v l k).imp (fun ⟨j, _, _, _, hh, hd⟩ => ⟨j, c, hh, hd⟩) And.right
  · rw [State.modify_entry]; exact breakEntry_none hi

theorem HoldsHeld.expire (h : HoldsHeld w s) (x : HoldRecord) : HoldsHeld w (s.expireHold x) := by
  refine h.ending (h.holders.expire x) (.inl ⟨x.holder, x.cell, by rw [State.expireHold_frame], by rw [State.expireHold_frame]⟩) (fun k hk => ?_)
    (by rw [State.expireHold_frame]) (by rw [State.expireHold_frame]) (by rw [State.expireHold_frame]) (by rw [State.expireHold_frame])
    (by rw [State.expireHold_frame])
  rw [State.expireHold_entry]
  split
  · next hkl => subst hkl; simp only [downgraded, hk]
  · exact hk

/-- A session whose entry a RESERVE has armed: without a grant no hold stands for it (R23). -/
theorem HoldersHeld.unheld (h : HoldersHeld s) (hr : (s.entry l).reservation = .none) {x : HoldRecord} (hx : x ∈ s.holds) (hs : x.stands = true) :
    x.holder ≠ l := by
  rintro rfl
  obtain ⟨v, hv⟩ := h x hx hs
  rw [hr] at hv; cases hv

/-- A grant comes only to a session that held nothing (R24: the failure count of a HELD entry is 0), and on a cell that no one holds. -/
theorem State.grants_iff (s : State) (l : Link) (c : CellIx) (h : s.grants l c = true) :
    0 < (s.entry l).failures ∧ (s.consumeEntry l).heldByOther l c = false := by
  simp only [State.grants, State.earnsHold, State.consumeEntry_reservation, Bool.and_eq_true, decide_eq_true_eq, Bool.not_eq_true'] at h
  obtain ⟨⟨hne, hle⟩, hother⟩ := h
  exact ⟨by omega, hother⟩

theorem State.armed_grant {s : State} (h : ReservationsWf s) (hg : s.grants l c = true) :
    (∀ c v, (s.entry l).reservation ≠ .held c v) ∧ (s.consumeEntry l).holds = s.holds ∧ (s.consumeEntry l).drains = s.drains := by
  obtain ⟨hpos, _⟩ := s.grants_iff l c hg
  refine (s.consumeEntry_holds l).resolve_left ?_
  rintro ⟨c', v, hr, _⟩
  have := ((current_held hr).mp (h l).2).2.1
  omega

/-- A hold record for `l` on `c`, when no drain is pending: the records stay distinct. -/
theorem HoldTable.grant {d : Clock} (ht : HoldTable s.holds []) (hh : HoldersHeld s) (hr : ∀ c v, (s.entry l).reservation ≠ .held c v)
    (hc : s.heldByOther l c = false) : HoldTable (s.holds ++ [⟨c, l, .standing d⟩]) [] := by
  have hstands : ∀ x ∈ s.holds, x.stands = true := fun x hx => by
    cases hp : x.phase with
    | standing d => simp [HoldRecord.stands, hp]
    | ended => exact absurd ((ht.ended x.cell).mpr ⟨x, hx, rfl, hp⟩) List.not_mem_nil
  have hholder : ∀ x ∈ s.holds, x.holder ≠ l := by
    rintro x hx rfl
    obtain ⟨v, hv⟩ := hh x hx (hstands x hx)
    exact hr _ _ hv
  have hcell : ∀ x ∈ s.holds, x.cell ≠ c := by
    rintro x hx rfl
    unfold State.heldByOther State.holderOf at hc
    cases hf : s.holds.find? fun h => decide (h.cell = x.cell) && h.stands with
    | none => simpa [hstands x hx] using List.find?_eq_none.mp hf x hx
    | some y =>
      rw [hf] at hc
      exact hholder y (List.mem_of_find?_eq_some hf) (by simpa using hc)
  refine ⟨List.pairwise_append.mpr ⟨ht.distinct, List.pairwise_singleton .., fun a ha b hb => ?_⟩, List.nodup_nil, fun k => ?_⟩
  · rw [List.mem_singleton.mp hb]; exact ⟨hcell a ha, hholder a ha⟩
  · rw [ht.ended k]
    simp

theorem HoldsHeld.arm (h : HoldsHeld w s) (hr : ReservationsWf s) (hs : s.session l ≠ none) (hd : s.drains = []) : HoldsHeld w (s.armed l c) := by
  have hcons := h.consume l
  have hholds := s.armed_holds l c
  have hdrains : (s.armed l c).drains = (s.consumeEntry l).drains := by rw [State.armed_frame]
  have hother : ∀ k, k ≠ l → (s.armed l c).entry k = (s.consumeEntry l).entry k := fun k hk => by
    rw [State.armed_entry, if_neg hk, State.consumeEntry_entry, if_neg hk]
  have hnone : ((s.consumeEntry l).entry l).reservation = .none := by rw [State.consumeEntry_reservation]
  have hmark : (s.armed l c).counters.highWater = (s.consumeEntry l).counters.highWater := by
    rw [State.armed_eq]; split <;> rfl
  refine ⟨?_, fun x hx hst => ?_, fun k hk => ?_, ?_⟩
  · rw [hholds, hdrains]
    split
    · next hg =>
      obtain ⟨hheld, hh, hdr⟩ := State.armed_grant hr hg
      have hby : s.heldByOther l c = false := by
        have := (s.grants_iff l c hg).2
        simpa [State.heldByOther, State.holderOf, hh] using this
      rw [hh, hdr, hd]
      exact HoldTable.grant (hd ▸ h.table) h.holders hheld hby
    · exact hcons.table
  · have hold : ∀ x ∈ (s.consumeEntry l).holds, x.stands = true → ∃ v, ((s.armed l c).entry x.holder).reservation = .held x.cell v :=
      fun x hx hst => by
        rw [hother _ (hcons.holders.unheld hnone hx hst)]; exact hcons.holders x hx hst
    rw [hholds] at hx
    split at hx
    · next hg =>
      rcases List.mem_append.mp hx with hx | hx
      · exact hold x hx hst
      · rw [List.mem_singleton.mp hx]
        exact ⟨_, by rw [State.armed_entry, if_pos rfl, if_pos hg]⟩
    · exact hold x hx hst
  · have hk' : s.session k = none := by
      have : (s.armed l c).session k = s.session k := by rw [State.armed_frame]; rfl
      rw [← this]; exact hk
    have hkl : k ≠ l := by rintro rfl; exact hs hk'
    rw [State.armed_entry, if_neg hkl]; exact h.detached k hk'
  · refine hcons.deferrals.congr rfl ?_ hmark (fun k hk => ?_) ?_ ?_
    · rw [State.armed_frame, State.consumeEntry_frame]
    · rw [hholds]
      split
      · obtain ⟨x, hx, hxk⟩ := hk
        exact ⟨x, List.mem_append_left _ hx, hxk⟩
      · exact hk
    · rw [State.armed_frame, State.consumeEntry_frame]
    · rw [State.armed_frame, State.consumeEntry_frame]

theorem HoldsHeld.defer {e : DwqEntry} {k : Link} (h : HoldsHeld w s) (hw : w'.drain = w.drain) (hroom : s.dwq.length < 32)
    (hheld : s.holderOf e.cell = some k) : HoldsHeld w' (s.deferRequest e) where
  table := h.table
  holders := h.holders
  detached := h.detached
  deferrals := by
    obtain ⟨hm, h32, hh, h1, ho, hi⟩ := h.deferrals
    refine ⟨?_, ?_, fun x hx => ?_, h1, ho, hw ▸ hi⟩
    · exact le_of_eq_of_le (List.length_append ..) (le_max_right ..)
    · exact max_le h32 (by omega)
    · rw [hw]
      rcases List.mem_append.mp hx with hx | hx
      · exact hh x hx
      · rw [List.mem_singleton.mp hx]
        obtain ⟨y, hy, hi⟩ := List.any_eq_true.mp (State.any_isHoldOf_of_holderOf hheld)
        exact .inl ⟨y, hy, (isHoldOf_iff.mp hi).1⟩

/-- The oldest drain is taken: its ENDED record goes (R54). -/
theorem HoldTable.startDrain {holds : List HoldRecord} {rest : List CellIx} (ht : HoldTable holds (c :: rest)) :
    HoldTable (holds.filter fun h => !(decide (h.cell = c) && !h.stands)) rest where
  distinct := ht.distinct.filter _
  once := (List.nodup_cons.mp ht.once).2
  ended k := by
    have hk := ht.ended k
    rw [List.mem_cons] at hk
    constructor
    · intro hm
      obtain ⟨x, hx, hxk, hxe⟩ := hk.mp (.inr hm)
      have hkc : x.cell ≠ c := by
        rw [hxk]; rintro rfl
        exact (List.nodup_cons.mp ht.once).1 hm
      exact ⟨x, List.mem_filter.mpr ⟨hx, by simp [hkc]⟩, hxk, hxe⟩
    · rintro ⟨x, hx, hxk, hxe⟩
      obtain ⟨hx, hkeep⟩ := List.mem_filter.mp hx
      refine (hk.mpr ⟨x, hx, hxk, hxe⟩).resolve_left ?_
      rintro rfl
      simp [hxk, HoldRecord.stands, hxe] at hkeep

theorem HoldsHeld.startDrain {rest : List CellIx} (h : HoldsHeld .idle s) (hc : s.drains = c :: rest) (hp : s.forwardPosts = [])
    (hd : s.draining = none) : HoldsHeld ⟨none, some c⟩
      { s with drains := rest, holds := s.holds.filter fun h => !(decide (h.cell = c) && !h.stands) } where
  table := HoldTable.startDrain (hc ▸ h.table)
  holders x hx hs := h.holders x (List.mem_of_mem_filter hx) hs
  detached := h.detached
  deferrals := by
    obtain ⟨hm, h32, hh, h1, ho, _⟩ := h.deferrals
    refine ⟨hm, h32, fun e he => ?_, h1, ho, fun _ => ⟨hp, hd⟩⟩
    by_cases hec : e.cell = c
    · exact .inr (.inr (.inr (congrArg some hec.symm)))
    · rcases hh e he with ⟨x, hx, hxe⟩ | ⟨p, hm, _⟩ | hdr | hw
      · exact .inl ⟨x, List.mem_filter.mpr ⟨hx, by simp [hxe, hec]⟩, hxe⟩
      · rw [hp] at hm; cases hm
      · rw [hd] at hdr; cases hdr
      · cases hw

/-- Only what the DWQ entries wait for besides the hold records changes: the forward post, and the drain that goes on. -/
theorem HoldsHeld.operation (h : HoldsHeld w s) (hh : t.holds = s.holds) (hdr : t.drains = s.drains) (he : t.entries = s.entries)
    (hs : t.sessions = s.sessions) (hq : t.dwq.Sublist s.dwq) (hm : t.counters = s.counters)
    (hwait : ∀ e ∈ t.dwq, (∃ p ∈ s.forwardPosts, p.resume = some e.cell) ∨ s.draining = some e.cell ∨ w.drain = some e.cell →
      (∃ h ∈ s.holds, h.cell = e.cell) ∨ (∃ p ∈ t.forwardPosts, p.resume = some e.cell) ∨ t.draining = some e.cell ∨ w'.drain = some e.cell)
    (h1 : t.forwardPosts.length ≤ 1) (ho : t.forwardPosts ≠ [] → t.draining = none)
    (hi : w'.drain ≠ none → t.forwardPosts = [] ∧ t.draining = none) : HoldsHeld w' t where
  table := by rw [hh, hdr]; exact h.table
  holders := h.holders.congr hh fun k c v hk => by rw [State.entry_congr he]; exact hk
  detached l hl := by rw [State.entry_congr he]; exact h.detached l (State.session_congr hs l ▸ hl)
  deferrals := by
    refine ⟨hm ▸ le_trans hq.length_le h.deferrals.marked, hm ▸ h.deferrals.size, fun e he => ?_, h1, ho, hi⟩
    rw [hh]
    rcases h.deferrals.held e (hq.subset he) with hx | hx
    · exact .inl hx
    · exact hwait e he hx

theorem HoldsHeld.post {p : ForwardPost} {r : Option Taken} (h : HoldsHeld ⟨r, p.resume⟩ s) (hp : s.forwardPosts = []) (hd : s.draining = none) :
    HoldsHeld .idle { s with forwardPosts := s.forwardPosts ++ [p] } := by
  refine h.operation rfl rfl rfl rfl (.refl _) rfl (fun e _ hw => ?_) ?_ (fun _ => hd) fun hn => absurd rfl hn
  · rcases hw with ⟨x, hx, _⟩ | hx | hx
    · rw [hp] at hx; cases hx
    · rw [hd] at hx; cases hx
    · exact .inr (.inl ⟨p, List.mem_append_right _ List.mem_cons_self, hx⟩)
  · show (s.forwardPosts ++ [p]).length ≤ 1
    rw [hp]; exact le_rfl

theorem HoldsHeld.unpost {p : ForwardPost} {rest : List ForwardPost} {r : Option Taken} (h : HoldsHeld .idle s) (hp : s.forwardPosts = p :: rest) :
    HoldsHeld ⟨r, p.resume⟩ { s with forwardPosts := rest } := by
  have hrest : rest = [] := by
    have := h.deferrals.onePost
    rw [hp, List.length_cons] at this
    exact List.length_eq_zero_iff.mp (by omega)
  have hd : s.draining = none := h.deferrals.oneOperation (by rw [hp]; exact List.cons_ne_nil _ _)
  refine h.operation rfl rfl rfl rfl (.refl _) rfl (fun e _ hw => ?_) ?_ (fun _ => hd) fun _ => ⟨hrest, hd⟩
  · rcases hw with ⟨x, hx, hxe⟩ | hx | hx
    · rw [hp, hrest, List.mem_singleton] at hx
      exact .inr (.inr (.inr (hx ▸ hxe)))
    · rw [hd] at hx; cases hx
    · cases hx
  · rw [hrest]; exact Nat.zero_le _

theorem HoldsHeld.carried (h : HoldsHeld w s) : HoldsHeld w { s with forwardPosts := s.forwardPosts.map fun p => { p with carrying := none } } := by
  have hnil : s.forwardPosts.map (fun p => { p with carrying := none }) = [] ↔ s.forwardPosts = [] := List.map_eq_nil_iff
  refine h.operation rfl rfl rfl rfl (.refl _) rfl (fun e _ hw => ?_) ?_ (fun hn => ?_) fun hn => ?_
  · exact .inr (hw.imp_left fun ⟨p, hp, hr⟩ => ⟨_, List.mem_map.mpr ⟨p, hp, rfl⟩, hr⟩)
  · exact le_of_eq_of_le (List.length_map _) h.deferrals.onePost
  · exact h.deferrals.oneOperation fun he => hn (hnil.mpr he)
  · obtain ⟨hp, hd⟩ := h.deferrals.inHand hn
    exact ⟨hnil.mpr hp, hd⟩

theorem HoldsHeld.resume (h : HoldsHeld .idle s) (hp : s.forwardPosts = []) (hd : s.draining = some c) :
    HoldsHeld ⟨none, some c⟩ { s with draining := none } := by
  refine h.operation rfl rfl rfl rfl (.refl _) rfl (fun e _ hw => ?_) h.deferrals.onePost (fun _ => rfl) fun _ => ⟨hp, rfl⟩
  rcases hw with hx | hx | hx
  · exact .inr (.inl hx)
  · exact .inr (.inr (.inr (hd.symm.trans hx)))
  · cases hx

theorem HoldsHeld.pause (h : HoldsHeld ⟨none, some c⟩ s) : HoldsHeld .idle { s with draining := some c } := by
  obtain ⟨hp, hd⟩ := h.deferrals.inHand nofun
  refine h.operation rfl rfl rfl rfl (.refl _) rfl (fun e _ hw => ?_) h.deferrals.onePost (fun hn => absurd hp hn) fun hn => absurd rfl hn
  rcases hw with hx | hx | hx
  · exact .inr (.inl hx)
  · rw [hd] at hx; cases hx
  · exact .inr (.inr (.inl hx))

theorem HoldsHeld.endDrain (h : HoldsHeld ⟨none, some c⟩ s) (he : ∀ e ∈ s.dwq, e.cell ≠ c) : HoldsHeld .idle s := by
  refine h.operation rfl rfl rfl rfl (.refl _) rfl (fun e hm hw => ?_) h.deferrals.onePost h.deferrals.oneOperation fun hn => absurd rfl hn
  rcases hw with hx | hx | hx
  · exact .inr (.inl hx)
  · exact .inr (.inr (.inl hx))
  · cases hx; exact absurd rfl (he e hm)

theorem HoldsHeld.detach (h : HoldsHeld w s) (hw : w'.drain = w.drain) (he : (s.entry l).reservation = .none) : HoldsHeld w' (s.detach l) := by
  refine h.congr hw (by rw [State.detach_frame]) (by rw [State.detach_frame]) (fun k => by rw [State.detach_frame]; rfl) (fun k hk => ?_)
    (by rw [State.detach_frame]; exact List.filter_sublist) (by rw [State.detach_frame]) (by rw [State.detach_frame]) (by rw [State.detach_frame])
  rw [State.detach_session] at hk
  split at hk
  · next hkl => exact .inr (hkl ▸ he)
  · exact .inl hk

theorem holdsHeld_nothing (hh : t.holds = []) (hdr : t.drains = []) (he : ∀ l, t.entry l = {}) (hq : t.dwq = []) (hm : t.counters.highWater = 0)
    (hp : t.forwardPosts = []) (hd : t.draining = none) : HoldsHeld w t where
  table := by rw [hh, hdr]; exact ⟨.nil, .nil, fun c => by simp⟩
  holders x hx := by rw [hh] at hx; cases hx
  detached l _ := by rw [he]
  deferrals := by
    refine ⟨?_, ?_, fun e hx => ?_, ?_, fun _ => hd, fun _ => ⟨hp, hd⟩⟩
    · rw [hq]; exact Nat.zero_le _
    · rw [hm]; omega
    · rw [hq] at hx; cases hx
    · rw [hp]; exact Nat.zero_le _

theorem State.renewLease_none (s : State) (l k : Link) (h : (s.renewLease l).session k = none) : s.session k = none := by
  unfold State.renewLease at h
  split at h
  · exact h
  · rw [State.session_setSession] at h
    split at h
    · cases h
    · exact h

theorem Move.holdsHeld (m : Move host w s w' t) (hr : ReservationsWf s) (hq : RequestsHeld w s) (h : HoldsHeld w s) : HoldsHeld w' t := by
  cases m with
  | tally _ _ _ _ _ k _ hk => exact h.of_eq rfl rfl rfl rfl rfl rfl hk rfl rfl
  | detect c =>
    exact h.of_eq rfl (by rw [State.detect_eq]) (by rw [State.detect_eq]) (by rw [State.detect_eq]) (by rw [State.detect_eq])
      (by rw [State.detect_eq]) (by rw [State.detect_eq]) (by rw [State.detect_eq]) (by rw [State.detect_eq])
  | consume l => exact h.consume l
  | failures l n _ he =>
    refine h.congr rfl rfl rfl (fun k => ?_) (fun _ => .inl) (.refl _) rfl rfl rfl
    rw [State.entry_setEntry]
    split
    · next hk => rw [hk, he]
    · rfl
  | freshEntry _ l hx =>
    refine h.congr rfl rfl rfl (fun k => ?_) (fun _ => .inl) (.refl _) rfl rfl rfl
    rw [State.entry_setEntry]
    split
    · next hk => rw [hk, h.detached l hx]
    · rfl
  | arm _ l c hd => exact h.arm hr (hq.attached _ rfl rfl) hd
  | modify c v l => exact h.modify c v l none
  | commit c v l => exact (h.modify c v l (some l)).consume l
  | expire x => exact h.expire x
  | defer _ e k hroom hheld => exact h.defer rfl hroom hheld
  | post p hp hd => exact h.post hp hd
  | unpost p rest hp => exact h.unpost hp
  | carried => exact h.carried
  | startDrain c rest hc hp hd => exact h.startDrain hc hp hd
  | resume c hp hd => exact h.resume hp hd
  | undefer c e he =>
    exact h.congr rfl rfl rfl (fun _ => rfl) (fun _ => .inl) (List.eraseP_sublist) rfl rfl rfl
  | endDrain c he => exact h.endDrain he
  | pause c => exact h.pause
  | renew _ l =>
    rw [State.renewLease_frame]
    refine h.congr rfl rfl rfl (fun _ => rfl) (fun k hk => .inl ?_) (.refl _) rfl rfl rfl
    exact s.renewLease_none l k hk
  | attach _ l x =>
    have hs : ∀ k, (s.setSession l (some x)).session k = none → s.session k = none := fun k hk => by
      rw [State.session_setSession] at hk
      split at hk
      · cases hk
      · exact hk
    split
    · rw [State.changeAdmin_frame]
      exact h.congr rfl rfl rfl (fun _ => rfl) (fun k hk => .inl (hs k hk)) (.refl _) rfl rfl rfl
    · exact h.congr rfl rfl rfl (fun _ => rfl) (fun k hk => .inl (hs k hk)) (.refl _) rfl rfl rfl
  | closing _ l x =>
    rw [State.vacateAdmin_frame]
    refine h.congr rfl rfl rfl (fun _ => rfl) (fun k hk => .inl ?_) (.refl _) rfl rfl rfl
    have hk : (s.setSession l (some { x with phase := .closing })).session k = none := hk
    rw [State.session_setSession] at hk
    split at hk
    · cases hk
    · exact hk
  | changeAdmin => rw [State.changeAdmin_frame]; exact h.of_eq rfl rfl rfl rfl rfl rfl rfl rfl rfl
  | detachClean l tag x _ _ _ he => exact h.detach rfl he
  | detachAbrupt l k ended entry _ _ he =>
    rw [State.emptyLink_frame]
    exact (h.detach (w' := .idle) rfl he).of_eq rfl rfl rfl rfl rfl rfl rfl rfl rfl
  | beginReset _ scope => exact holdsHeld_nothing rfl rfl (fun _ => getAt_replicate ..) rfl rfl rfl rfl
  | _ => exact h.of_eq rfl rfl rfl rfl rfl rfl rfl rfl rfl

theorem holdsWf_reset : HoldsWf State.reset :=
  (holdsHeld_idle (r := none)).mp (holdsHeld_nothing rfl rfl (fun _ => getAt_replicate ..) rfl rfl rfl rfl)

end Sys2Proof.Machine
end

section
/-! PROOF. The deadlines of the holds: a hold is granted at most 255 ms ahead, and the clock counts only when every hold that is due has ended
(R43, R49). -/

set_option Elab.async false

namespace Sys2Proof.Machine

variable {host : Prop} {w w' : Work} {s t : State} {l : Link} {c : CellIx}

/-! ## What stands, stood before or was granted -/

/-- Every kind of STANDING record is in the later list at most as often as in the earlier. -/
def StandingKept (before after : List HoldRecord) : Prop :=
  ∀ p : HoldRecord → Bool, (∀ h, p h = true → h.stands = true) → after.countP p ≤ before.countP p

theorem StandingKept.refl (xs : List HoldRecord) : StandingKept xs xs := fun _ _ => le_rfl

theorem StandingKept.of_eq {xs ys : List HoldRecord} (h : ys = xs) : StandingKept xs ys := h ▸ .refl _

theorem StandingKept.trans {xs ys zs : List HoldRecord} (h : StandingKept xs ys) (h' : StandingKept ys zs) : StandingKept xs zs :=
  fun p hp => le_trans (h' p hp) (h p hp)

theorem StandingKept.of_sublist {xs ys : List HoldRecord} (h : ys.Sublist xs) : StandingKept xs ys := fun _ _ => h.countP_le

theorem StandingKept.mem {xs ys : List HoldRecord} (h : StandingKept xs ys) {x : HoldRecord} (hx : x ∈ ys) (hs : x.stands = true) : x ∈ xs := by
  have hle := h (fun y => decide (y = x)) (fun y hy => by rw [of_decide_eq_true hy]; exact hs)
  have hpos : 0 < ys.countP fun y => decide (y = x) := List.countP_pos_iff.mpr ⟨x, hx, by simp⟩
  obtain ⟨y, hy, he⟩ := List.countP_pos_iff.mp (lt_of_lt_of_le hpos hle)
  exact of_decide_eq_true he ▸ hy

theorem State.endHold_standingKept (s : State) (l : Link) (c : CellIx) : StandingKept s.holds (s.endHold l c).holds := by
  intro p hp
  rw [State.endHold_holds]
  split
  · rw [List.countP_map]
    refine List.countP_mono_left fun x _ hx => ?_
    simp only [Function.comp_apply] at hx
    split at hx
    · exact absurd (hp _ hx) (by simp [HoldRecord.stands])
    · exact hx
  · exact le_rfl

theorem State.consumeEntry_standingKept (s : State) (l : Link) : StandingKept s.holds (s.consumeEntry l).holds := by
  rcases s.consumeEntry_holds l with ⟨c, _, _, h, _⟩ | ⟨_, h, _⟩ <;> rw [h]
  · exact s.endHold_standingKept l c
  · exact .refl _

theorem State.modify_standingKept (s : State) (c : CellIx) (v : Quad) (l : Link) (k : Option Link) :
    StandingKept s.holds (s.modify c v l k).holds := by
  rcases s.modify_holds_cases c v l k with ⟨j, _, _, _, h, _⟩ | ⟨_, h, _⟩ <;> rw [h]
  · exact s.endHold_standingKept j c
  · exact .refl _

/-- A move makes no hold stand but the one that a RESERVE is granted, which is a host's doing. -/
theorem Move.standingKept (m : Move host w s w' t) : StandingKept s.holds t.holds ∨ host ∧ ∃ l c, t = s.armed l c := by
  cases m with
  | arm hh l c => exact .inr ⟨hh, l, c, rfl⟩
  | consume l => exact .inl (s.consumeEntry_standingKept l)
  | modify c v l => exact .inl (s.modify_standingKept c v l none)
  | commit c v l => exact .inl ((s.modify_standingKept c v l (some l)).trans (State.consumeEntry_standingKept _ l))
  | expire x => rw [State.expireHold_frame]; exact .inl (s.endHold_standingKept x.holder x.cell)
  | startDrain c => exact .inl (.of_sublist List.filter_sublist)
  | beginReset => exact .inl (.of_sublist (List.nil_sublist _))
  | detect c => exact .inl (.of_eq (by rw [State.detect_eq]))
  | renew _ l => exact .inl (.of_eq (by rw [State.renewLease_frame]))
  | attach => exact .inl (.of_eq (by split <;> [rw [State.changeAdmin_frame]; skip] <;> rfl))
  | closing => exact .inl (.of_eq (by rw [State.vacateAdmin_frame]; rfl))
  | changeAdmin => exact .inl (.of_eq (by rw [State.changeAdmin_frame]))
  | detachClean => exact .inl (.of_eq (by rw [State.detach_frame]))
  | detachAbrupt => exact .inl (.of_eq (by rw [State.emptyLink_frame, State.detach_frame]))
  | _ => exact .inl (.of_eq rfl)

/-- The hub's own moves make no hold stand. -/
theorem Moves.standingKept (m : Moves False w s w' t) : StandingKept s.holds t.holds := by
  refine m.keeps (P := fun _ t => StandingKept s.holds t.holds) (fun m hs => ?_) (.refl _)
  exact hs.trans (m.standingKept.resolve_right fun h => h.1)

/-! ## Deadlines ahead -/

theorem HoldTimesWf.of_standingKept (h : HoldTimesWf s) (hr : t.resetRequest = none → s.resetRequest = none) (hc : t.clock = s.clock)
    (hh : StandingKept s.holds t.holds) : HoldTimesWf t := by
  intro hn x hx d hd
  rw [hc]
  exact h (hr hn) x (hh.mem hx (HoldRecord.stands_iff.mpr ⟨d, hd⟩)) d hd

/-- Only the beginning of a reset sets the clock back or ends a reset request. -/
theorem Move.clock (m : Move host w s w' t) : (t.clock = s.clock ∧ (t.resetRequest = none → s.resetRequest = none)) ∨ t.holds = [] := by
  cases m with
  | beginReset => exact .inr rfl
  | request => exact .inl ⟨rfl, nofun⟩
  | detect c => rw [State.detect_eq]; exact .inl ⟨rfl, id⟩
  | consume l => rw [State.consumeEntry_frame]; exact .inl ⟨rfl, id⟩
  | modify c v l => rw [State.modify_frame]; exact .inl ⟨rfl, id⟩
  | commit c v l => rw [State.consumeEntry_frame, State.modify_frame]; exact .inl ⟨rfl, id⟩
  | expire x => rw [State.expireHold_frame]; exact .inl ⟨rfl, id⟩
  | arm _ l c => rw [State.armed_frame]; exact .inl ⟨rfl, id⟩
  | renew _ l => rw [State.renewLease_frame]; exact .inl ⟨rfl, id⟩
  | attach => split <;> [rw [State.changeAdmin_frame]; skip] <;> exact .inl ⟨rfl, id⟩
  | closing => rw [State.vacateAdmin_frame]; exact .inl ⟨rfl, id⟩
  | changeAdmin => rw [State.changeAdmin_frame]; exact .inl ⟨rfl, id⟩
  | detachClean => rw [State.detach_frame]; exact .inl ⟨rfl, id⟩
  | detachAbrupt => rw [State.emptyLink_frame, State.detach_frame]; exact .inl ⟨rfl, id⟩
  | _ => exact .inl ⟨rfl, id⟩

theorem later_sub {now : Clock} {ms : Nat} (h : ms ≤ 255) : (later now ms - now).toNat = ms := by
  have hs : later now ms - now = BitVec.ofNat 32 ms := by unfold later; simp
  rw [hs, BitVec.toNat_ofNat]
  omega

theorem Move.holdTimesWf (m : Move host w s w' t) (hw : HubWf s) (h : HoldTimesWf s) : HoldTimesWf t := by
  rcases m.clock with ⟨hc, hr⟩ | hnil
  · rcases m.standingKept with hk | ⟨_, l, c, rfl⟩
    · exact h.of_standingKept hr hc hk
    · intro hn x hx d hd
      have hst : x.stands = true := HoldRecord.stands_iff.mpr ⟨d, hd⟩
      have hold : x ∈ (s.consumeEntry l).holds → (d - (s.armed l c).clock).toNat ≤ 255 := fun hx => by
        rw [hc]; exact h (hr hn) x ((s.consumeEntry_standingKept l).mem hx hst) d hd
      rw [State.armed_holds] at hx
      split at hx
      · rcases List.mem_append.mp hx with hx | hx
        · exact hold hx
        · rw [List.mem_singleton.mp hx] at hd
          cases hd
          obtain ⟨_, _, h255, _⟩ := hw
          rw [hc, later_sub h255]; exact h255
      · exact hold hx
  · intro _ x hx
    rw [hnil] at hx; cases hx

/-! ## No hold that is due outlives the millisecond -/

/-- The record is of the cell, STANDING, and its deadline is reached. -/
def isDue (now : Clock) (c : CellIx) (h : HoldRecord) : Bool :=
  decide (h.cell = c) && match h.phase with
    | .standing d => reached now d
    | .ended => false

theorem isDue_stands {now : Clock} {x : HoldRecord} (h : isDue now c x = true) : x.stands = true := by
  unfold isDue at h
  unfold HoldRecord.stands
  cases hp : x.phase with
  | standing d => rfl
  | ended => simp [hp] at h

theorem State.dueHold_eq (s : State) (c : CellIx) : s.dueHold c = s.holds.find? (isDue s.clock c) := rfl

/-- The records of a cell that are due. -/
def State.overdue (s : State) (c : CellIx) : Nat := s.holds.countP (isDue s.clock c)

theorem State.overdue_eq_zero : s.overdue c = 0 ↔ s.dueHold c = none := by
  rw [State.overdue, State.dueHold_eq, List.countP_eq_zero, List.find?_eq_none]

theorem Moves.overdue_le (m : Moves False w s w' t) (c : CellIx) : t.overdue c ≤ s.overdue c := by
  unfold State.overdue
  rw [m.own.2]
  exact m.standingKept _ fun _ => isDue_stands

theorem State.settle_overdue (s : State) (c : CellIx) : s.settle.overdue c ≤ s.overdue c := (s.settle_moves (host := False)).overdue_le c

theorem countP_lt {α : Type} {p q : α → Bool} {xs : List α} (h : ∀ x ∈ xs, q x = true → p x = true) {x : α} (hx : x ∈ xs) (hp : p x = true)
    (hq : q x = false) : xs.countP q < xs.countP p := by
  induction xs with
  | nil => cases hx
  | cons y ys ih =>
    have hle : ys.countP q ≤ ys.countP p := List.countP_mono_left fun z hz => h z (List.mem_cons_of_mem _ hz)
    rw [List.countP_cons, List.countP_cons]
    rcases List.mem_cons.mp hx with rfl | hx
    · simp only [hp, hq, if_true, Bool.false_eq_true, if_false]; omega
    · have := ih (fun z hz => h z (List.mem_cons_of_mem _ hz)) hx
      have hy := h y List.mem_cons_self
      by_cases hqy : q y = true
      · simp only [hqy, hy hqy, if_true]; omega
      · simp only [hqy, Bool.false_eq_true, if_false]; split <;> omega

/-- An expiry ends a hold that was due. -/
theorem State.expireHold_overdue {x : HoldRecord} (h : s.dueHold c = some x) : (s.expireHold x).overdue c < s.overdue c := by
  have hmem := List.mem_of_find?_eq_some h
  have hdue : isDue s.clock c x = true := List.find?_some h
  have hi : isHoldOf x.holder x.cell x = true := isHoldOf_iff.mpr ⟨rfl, rfl, isDue_stands hdue⟩
  unfold State.overdue
  rw [State.expireHold_frame]
  dsimp only
  rw [State.endHold_holds, if_pos (List.any_eq_true.mpr ⟨x, hmem, hi⟩), List.countP_map]
  refine countP_lt (fun y _ hy => ?_) hmem hdue ?_
  · simp only [Function.comp_apply] at hy
    split at hy
    · exact absurd (isDue_stands hy) (by simp [HoldRecord.stands])
    · exact hy
  · simp only [Function.comp_apply, if_pos hi]
    rw [Bool.eq_false_iff]
    intro hy
    have := isDue_stands hy
    simp [HoldRecord.stands] at this

theorem State.lapseHold_resetStands (s : State) (c : CellIx) : (s.lapseHold c).resetStands = s.resetStands := by
  rw [State.resetStands, (s.lapseHold_moves (host := False) c).own.1, State.resetStands]

/-- One expiry leaves no more holds due on any cell, and, if one was due on its own cell, fewer there. -/
theorem State.lapseHold_overdue (hr : s.resetStands = false) (c k : CellIx) :
    (s.lapseHold k).settle.overdue c ≤ s.settle.overdue c - (if k = c then 1 else 0) := by
  unfold State.lapseHold
  dsimp only
  rw [State.settle_resetStands, hr]
  simp only [Bool.false_eq_true, if_false]
  cases hd : s.settle.dueHold k with
  | none =>
    dsimp only
    split
    · next hk => subst hk; rw [State.overdue_eq_zero.mpr hd]
    · exact le_rfl
  | some x =>
    dsimp only
    refine le_trans (State.settle_overdue _ c) ?_
    split
    · next hk =>
      subst hk
      have := State.expireHold_overdue hd
      omega
    · exact ((Move.expire (host := False) (w := .idle) x).moves).overdue_le c

theorem foldl_lapseHold_overdue (ks : List CellIx) {s : State} (hr : s.resetStands = false) (c : CellIx) :
    (ks.foldl State.lapseHold s).settle.overdue c ≤ s.settle.overdue c - ks.count c := by
  induction ks generalizing s with
  | nil => exact le_rfl
  | cons k ks ih =>
    have h1 := ih (s := s.lapseHold k) (by rw [State.lapseHold_resetStands]; exact hr)
    have h2 := State.lapseHold_overdue hr c k
    rw [List.foldl_cons, List.count_cons]
    simp only [beq_iff_eq]
    omega

/-- Taking the drains begins with what is due. -/
theorem takeDrains_moves_settle (n : Nat) (h : s.resetStands = false) : Moves host .idle s.settle .idle (takeDrains n s) := by
  cases n with
  | zero => exact .refl
  | succ n =>
    unfold takeDrains
    split
    · exact .refl
    · obtain ⟨hp, hd⟩ := State.inProgress_eq_false.mp (State.settle_idle h)
      have hm : ∀ {host}, Moves host .idle s.settle .idle s.settle.takeDrain := State.takeDrain_moves hp hd
      refine hm.trans (takeDrains_moves n ?_)
      rw [State.resetStands, (hm (host := False)).own.1, State.settle_resetRequest]
      exact h

/-- When what is due has been taken, no hold is due, unless a reset request stands (R49). -/
theorem State.takeDue_dueHold (s : State) (h : s.takeDue.resetRequest = none) (c : CellIx) : s.takeDue.dueHold c = none := by
  rw [← State.overdue_eq_zero]
  unfold State.takeDue at h ⊢
  dsimp only at h ⊢
  generalize List.foldl State.lapseTake _ _ = u at h ⊢
  have hfold : Moves False .idle u .idle ((u.holds.map HoldRecord.cell).foldl State.lapseHold u) := State.foldl_moves State.lapseHold_moves _ _
  have hzero : ((u.holds.map HoldRecord.cell).foldl State.lapseHold u).settle.overdue c = 0 := by
    have hr : u.resetStands = false := by
      rw [State.resetStands, ← hfold.own.1, ← (State.clearDrains_moves (host := False) _).own.1, h]; rfl
    have h1 := foldl_lapseHold_overdue (u.holds.map HoldRecord.cell) hr c
    have h2 : u.settle.overdue c ≤ (u.holds.map HoldRecord.cell).count c := by
      refine le_trans (u.settle_overdue c) ?_
      rw [List.count, List.countP_map]
      refine List.countP_mono_left fun x _ hx => ?_
      simp only [isDue, Bool.and_eq_true, decide_eq_true_eq] at hx
      simp [hx.1]
    omega
  generalize (u.holds.map HoldRecord.cell).foldl State.lapseHold u = v at h hzero
  unfold State.clearDrains at h ⊢
  split
  · next hv => rw [if_pos hv] at h; simp [State.resetStands, h] at hv
  · next hv =>
    have := (takeDrains_moves_settle (host := False) (v.drains.length + v.holds.length) (Bool.not_eq_true _ ▸ hv)).overdue_le c
    omega

theorem HoldTimesWf.count (h : HoldTimesWf s) (hd : s.resetRequest = none → ∀ c, s.dueHold c = none) : HoldTimesWf s.count := by
  intro hn x hx d hp
  have hn : s.resetRequest = none := hn
  have hle := h hn x hx d hp
  have hnot : reached s.clock d = false := by
    have := List.find?_eq_none.mp (hd hn x.cell) x hx
    simpa [hp] using this
  have hpos : d ≠ s.clock := by
    rintro rfl
    simp [reached] at hnot
  show (d - (s.clock + 1)).toNat ≤ 255
  bv_omega

theorem HoldTimesWf.count_of_takeDue (h : HoldTimesWf t) (ht : t = s.takeDue) : HoldTimesWf t.count :=
  h.count fun hn c => ht ▸ s.takeDue_dueHold (ht ▸ hn) c

theorem holdTimesWf_reset : HoldTimesWf State.reset := fun _ _ hx => by cases hx

end Sys2Proof.Machine

namespace Sys2Proof.Proofs

open Sys2Proof.Machine

/-- Settles O55: every move keeps the entries current; with the queues and the requests, the hold unit; and the clock passes no deadline. -/
theorem stepKeepsReservationsCurrent : Obligations.StepKeepsReservationsCurrent := fun _ _ hr h =>
  ⟨step_keeps (P := fun _ s => ReservationsWf s) (fun m hr => m.reservationsWf hr) (fun _ _ h => h) (fun _ _ _ => reservationsWf_reset)
      (fun _ _ _ h => h) hr h,
    fun hh hq hw => holdsHeld_idle.mp
      (step_keeps (P := fun w s => (QueuesWf s ∧ RequestsHeld w s) ∧ ReservationsWf s ∧ HoldsHeld w s)
        (fun m ⟨⟨hq, hw⟩, hr, hh⟩ => ⟨⟨m.queuesWf hq, m.requestsHeld hq hw⟩, m.reservationsWf hr, m.holdsHeld hr hw hh⟩)
        (fun _ _ ⟨⟨hq, hw⟩, hr, hh⟩ => ⟨⟨hq, hw.same rfl (fun _ => rfl) rfl⟩, hr, hh.of_eq rfl rfl rfl rfl rfl rfl rfl rfl rfl⟩)
        (fun _ _ _ => ⟨⟨queuesWf_reset, requestsHeld_idle.mpr requestsWf_reset⟩, reservationsWf_reset, holdsHeld_idle.mpr holdsWf_reset⟩)
        (fun _ _ _ ⟨⟨hq, hw⟩, hr, hh⟩ => ⟨⟨hq, hw.same rfl (fun _ => rfl) rfl⟩, hr, hh.of_eq rfl rfl rfl rfl rfl rfl rfl rfl rfl⟩)
        ⟨⟨hq, requestsHeld_idle.mpr hw⟩, hr, holdsHeld_idle.mpr hh⟩ h).2.2,
    fun hw ht =>
      (step_keeps (P := fun _ s => HubWf s ∧ HoldTimesWf s) (fun m ⟨hw, ht⟩ => ⟨m.hubWf hw, m.holdTimesWf hw ht⟩) (fun _ _ h => h)
        (fun _ _ _ => ⟨hubWf_reset, holdTimesWf_reset⟩)
        (fun _ _ hu ⟨hw, ht⟩ => ⟨hw, ht.count_of_takeDue hu⟩) ⟨hw, ht⟩ h).2⟩

/-- Settles O53: the state after a reset has every invariant. -/
theorem invariantsHoldAtReset : Obligations.InvariantsHoldAtReset :=
  ⟨cellsWf_nil, reservationsWf_reset, holdsWf_reset, holdTimesWf_reset, watchesWf_reset, queuesWf_reset, sessionsWf_reset, roleWf_reset,
    faultsWf_reset, linksWf_reset, requestsWf_reset, hubWf_reset⟩

end Sys2Proof.Proofs
end

section
/-! PROOF. The commands: which block takes a request, and when it does not; the arbiters' rotation (R3, R79), the standing reset request (R147), the pins and
the storage (R14, R136), and the window (R155). -/

set_option Elab.async false

namespace Sys2Proof.Machine

variable {s t : State} {l : Link} {tag : Tag} {r : Request} {f : State → State}

/-! ## Requests and the commands that take them -/

/-- The block that owns a request takes it, and carries out its operation (R104). -/
def State.command (s : State) (l : Link) (tag : Tag) (r : Request) (f : State → State) : Result :=
  match destination r with
  | .atArrival => s.commandAtArrival l tag r f
  | .queueLine => s.commandQueue l tag r f
  | .cellLine => if isCellOperation r then s.commandCell l tag r f else s.commandInOrder l tag r f

theorem exec_commandOf (l : Link) (tag : Tag) (r : Request) : ∃ f, ∀ s, exec (commandOf l tag r) s = s.command l tag r f := by
  cases r <;> exact ⟨_, fun _ => rfl⟩

/-- The command in which a request is taken, or one of the part's own and of the world's events. -/
inductive CommandKind : Instr → Prop
  | request (l : Link) (tag : Tag) (r : Request) : CommandKind (commandOf l tag r)
  | powerOn (rate : LineRate) : CommandKind (.powerOn rate)
  | rstnAsserted : CommandKind .rstnAsserted
  | resetComplete : CommandKind .resetComplete
  | storageUpset (c : CellIx) : CommandKind (.storageUpset c)
  | lineByteArrival (l : Link) (b : Byte) : CommandKind (.lineByteArrival l b)
  | partialTimeout (l : Link) : CommandKind (.partialTimeout l)
  | resync (l : Link) : CommandKind (.resync l)
  | forwardPost : CommandKind .forwardPost
  | drain : CommandKind .drain
  | holdExpiry (c : CellIx) : CommandKind (.holdExpiry c)
  | waitingTakeExpiry (q : QueueIx) : CommandKind (.waitingTakeExpiry q)
  | leaseExpiry (l : Link) : CommandKind (.leaseExpiry l)
  | cleanTeardown (l : Link) : CommandKind (.cleanTeardown l)
  | transmitterChoice (l : Link) : CommandKind (.transmitterChoice l)
  | frameSent (l : Link) : CommandKind (.frameSent l)

theorem commandKind (c : Instr) : CommandKind c := by
  cases c with
  | openSession l tag hostId eligible period => exact .request l tag (.openSession hostId eligible period)
  | closeSession l tag => exact .request l tag .closeSession
  | ping l tag echo => exact .request l tag (.ping echo)
  | querySession l tag => exact .request l tag .querySession
  | read l tag cell => exact .request l tag (.read cell)
  | write l tag cell value => exact .request l tag (.write cell value)
  | fetchAdd l tag cell delta => exact .request l tag (.fetchAdd cell delta)
  | setCellClass l tag cell cls owner => exact .request l tag (.setCellClass cell cls owner)
  | reserve l tag cell => exact .request l tag (.reserve cell)
  | commit l tag cell value => exact .request l tag (.commit cell value)
  | release l tag => exact .request l tag .release
  | watch l tag cell => exact .request l tag (.watch cell)
  | unwatch l tag cell => exact .request l tag (.unwatch cell)
  | createQueue l tag queue label capacity overflow mask intended notify =>
    exact .request l tag (.createQueue queue label capacity overflow mask intended notify)
  | destroyQueue l tag queue => exact .request l tag (.destroyQueue queue)
  | bind l tag queue => exact .request l tag (.bind queue)
  | unbind l tag queue => exact .request l tag (.unbind queue)
  | post l tag queue urgent payload => exact .request l tag (.post queue urgent payload)
  | take l tag queue wait => exact .request l tag (.take queue wait)
  | peek l tag queue => exact .request l tag (.peek queue)
  | queryQueue l tag queue => exact .request l tag (.queryQueue queue)
  | setPolicy l tag cls policy => exact .request l tag (.setPolicy cls policy)
  | clearFaults l tag => exact .request l tag .clearFaults
  | setForward l tag queue => exact .request l tag (.setForward queue)
  | yieldAdmin l tag target => exact .request l tag (.yieldAdmin target)
  | configure l tag threshold limit label => exact .request l tag (.configure threshold limit label)
  | hubReset l tag scope => exact .request l tag (.hubReset scope)
  | queryHub l tag => exact .request l tag .queryHub
  | powerOn rate => exact .powerOn rate
  | rstnAsserted => exact .rstnAsserted
  | resetComplete => exact .resetComplete
  | storageUpset c => exact .storageUpset c
  | lineByteArrival l b => exact .lineByteArrival l b
  | partialTimeout l => exact .partialTimeout l
  | resync l => exact .resync l
  | forwardPost => exact .forwardPost
  | drain => exact .drain
  | holdExpiry c => exact .holdExpiry c
  | waitingTakeExpiry q => exact .waitingTakeExpiry q
  | leaseExpiry l => exact .leaseExpiry l
  | cleanTeardown l => exact .cleanTeardown l
  | transmitterChoice l => exact .transmitterChoice l
  | frameSent l => exact .frameSent l

/-! ## Requests that are not taken (log 7) -/

theorem State.commandCell_not_taken (h : s.settle.takeCell l ⟨tag, r⟩ = none) : s.commandCell l tag r f = .next s := by
  simp [State.commandCell, h]

theorem State.commandQueue_not_taken (h : s.takeInside l ⟨tag, r⟩ = none) (h' : s.settle.takeQueue l ⟨tag, r⟩ = none) :
    s.commandQueue l tag r f = .next s := by
  simp [State.commandQueue, h, h']

theorem State.commandInOrder_not_taken (h : s.settle.takeInOrder l ⟨tag, r⟩ = none) : s.commandInOrder l tag r f = .next s := by
  simp [State.commandInOrder, h]

theorem State.commandAtArrival_not_taken (h : s.settle.takeArrived l ⟨tag, r⟩ = none) : s.commandAtArrival l tag r f = .next s := by
  simp [State.commandAtArrival, h]

theorem State.takeCell_eq_none {w : Waiting} (h : s.cellTurn ≠ some (l, w) ∨ (s.cellLine l).head? ≠ some w) : s.takeCell l w = none := by
  rw [State.takeCell, if_neg]
  rintro ⟨h1, h2⟩
  exact h.elim (fun h => h h1) fun h => h h2

theorem State.takeQueue_eq_none {w : Waiting} (h : s.queueTurn ≠ some (l, w)) : s.takeQueue l w = none := by
  rw [State.takeQueue, if_neg h]

theorem State.takeInside_eq_none {w : Waiting} (h : s.insideTurn ≠ some (l, w)) : s.takeInside l w = none := by
  rw [State.takeInside, if_neg]
  exact fun h' => h h'.1

theorem State.takeInOrder_eq_none {w : Waiting} (h : s.resetStands = true ∨ (s.cellLine l).head? ≠ some w) : s.takeInOrder l w = none := by
  rw [State.takeInOrder, if_neg]
  rintro ⟨h1, h2⟩
  exact h.elim (fun h => by rw [h1] at h; cases h) fun h => h h2

theorem State.takeArrived_eq_none {w : Waiting} (h : s.resetStands = true ∨ (s.link l).inbox.head? ≠ some w) : s.takeArrived l w = none := by
  rw [State.takeArrived, if_neg]
  rintro ⟨h1, h2, _⟩
  exact h.elim (fun h => by rw [h1] at h; cases h) fun h => h h2

theorem chooseFrom_none {p : Link} {head : Link → Option Waiting} (h : ∀ l, head l = none) : chooseFrom p head = none := by
  simp [chooseFrom, h]

/-! ## A hub in which no block takes work (R147) -/

theorem State.settle_of_resetStands (h : s.resetStands = true) : s.settle = s := by simp [State.settle, h]

theorem State.insideTurn_of_resetStands (h : s.resetStands = true) : s.insideTurn = none := by
  unfold State.insideTurn
  split
  · rw [if_pos h]
  · split
    · simp [State.queueTurn, h]
    · rfl

theorem State.command_of_resetStands (h : s.resetStands = true) : s.command l tag r f = .next s := by
  have hs := State.settle_of_resetStands h
  unfold State.command
  split
  · exact State.commandAtArrival_not_taken (by rw [hs]; exact State.takeArrived_eq_none (.inl h))
  · refine State.commandQueue_not_taken (State.takeInside_eq_none (by rw [State.insideTurn_of_resetStands h]; exact nofun)) ?_
    rw [hs]
    exact State.takeQueue_eq_none (by simp [State.queueTurn, h])
  · split
    · exact State.commandCell_not_taken (by rw [hs]; exact State.takeCell_eq_none (.inl (by simp [State.cellTurn, h])))
    · exact State.commandInOrder_not_taken (by rw [hs]; exact State.takeInOrder_eq_none (.inl h))

theorem State.lapseTake_of_resetStands (h : s.resetStands = true) (q : QueueIx) : s.lapseTake q = s := by
  simp [State.lapseTake, State.settle_of_resetStands h, h]

theorem exec_request_of_resetStands (h : s.resetStands = true) (l : Link) (tag : Tag) (r : Request) :
    exec (commandOf l tag r) s = .next s := by
  obtain ⟨f, hf⟩ := exec_commandOf l tag r
  rw [hf, State.command_of_resetStands h]

/-! ## The rotation of an arbiter (R3, R79) -/

theorem findSome?_range {α : Type} (f : Nat → Option α) (n : Nat) (x : α) :
    (List.range n).findSome? f = some x ↔ ∃ i, i < n ∧ f i = some x ∧ ∀ j, j < i → f j = none := by
  induction n with
  | zero => simp
  | succ n ih =>
    rw [List.range_succ, List.findSome?_append, Option.or_eq_some_iff, ih, List.findSome?_eq_none_iff]
    constructor
    · rintro (⟨i, hi, hx, hn⟩ | ⟨hn, hx⟩)
      · exact ⟨i, by omega, hx, hn⟩
      · exact ⟨n, by omega, by simpa using hx, fun j hj => hn j (List.mem_range.mpr hj)⟩
    · rintro ⟨i, hi, hx, hn⟩
      by_cases hin : i < n
      · exact .inl ⟨i, hin, hx, hn⟩
      · obtain rfl : i = n := by omega
        exact .inr ⟨fun j hj => hn j (List.mem_range.mp hj), by simpa using hx⟩

/-- An arbiter takes from the first link at or after its pointer that has a request. -/
theorem chooseFrom_eq_some {p l : Link} {head : Link → Option Waiting} {w : Waiting} :
    chooseFrom p head = some (l, w) ↔ head l = some w ∧ ∀ k : Link, (k - p).val < (l - p).val → head k = none := by
  have hturn : ∀ k : Link, p + Fin.ofNat 8 (k - p).val = k := fun k => by
    rw [show Fin.ofNat 8 (k - p).val = k - p from Fin.ext (Nat.mod_eq_of_lt (k - p).isLt)]; exact add_sub_cancel p k
  have hback : ∀ i, i < 8 → (p + Fin.ofNat 8 i - p).val = i := fun i hi => by
    rw [add_sub_cancel_left]; exact Nat.mod_eq_of_lt hi
  rw [chooseFrom, findSome?_range]
  constructor
  · rintro ⟨i, hi, hx, hn⟩
    obtain ⟨w', hw', he⟩ := Option.map_eq_some_iff.mp hx
    cases he
    refine ⟨hw', fun k hk => ?_⟩
    rw [hback i hi] at hk
    simpa [hturn k] using hn _ hk
  · rintro ⟨hx, hn⟩
    refine ⟨(l - p).val, (l - p).isLt, ?_, fun j hj => ?_⟩
    · dsimp only; rw [hturn l, hx]; rfl
    · have hnone := hn (p + Fin.ofNat 8 j) (by rw [hback j (lt_trans hj (l - p).isLt)]; exact hj)
      dsimp only; rw [hnone]; rfl

/-- RELEASE and UNWATCH do not wait at the cell-store arbiter. -/
theorem isCellOperation_eq_false {r : Request} : isCellOperation r = false ↔ r = .release ∨ ∃ cell, r = .unwatch cell := by
  cases r <;> simp [isCellOperation]

theorem isCellOperation_of_cellIndexOf (h : cellIndexOf r ≠ none) : isCellOperation r = true ∧ destination r = .cellLine := by
  cases r <;> first | exact ⟨rfl, rfl⟩ | exact absurd rfl h

theorem destination_of_queueIndexOf (h : queueIndexOf r ≠ none) : destination r = .queueLine := by
  cases r <;> first | rfl | exact absurd rfl h

theorem State.command_cell (h : cellIndexOf r ≠ none) : s.command l tag r f = s.commandCell l tag r f := by
  obtain ⟨hop, hd⟩ := isCellOperation_of_cellIndexOf h
  simp [State.command, hd, hop]

theorem State.command_queue (h : queueIndexOf r ≠ none) : s.command l tag r f = s.commandQueue l tag r f := by
  simp [State.command, destination_of_queueIndexOf h]

theorem State.command_inOrder (h : isCellOperation r = false) : s.command l tag r f = s.commandInOrder l tag r f := by
  have hd : destination r = .cellLine := by
    rcases isCellOperation_eq_false.mp h with rfl | ⟨_, rfl⟩ <;> rfl
  simp [State.command, hd, h]

theorem State.cellHead_some (s : State) (l : Link) (w : Waiting) : s.cellHead l = some w ↔
    ∃ before after, s.cellLine l = before ++ w :: after ∧ (∀ b ∈ before, isCellOperation b.request = false) ∧ isCellOperation w.request = true := by
  rw [State.cellHead, List.find?_eq_some_iff_append]
  constructor
  · rintro ⟨hw, before, after, he, hb⟩
    exact ⟨before, after, he, fun b hm => by simpa using hb b hm, hw⟩
  · rintro ⟨before, after, he, hb, hw⟩
    exact ⟨hw, before, after, he, fun b hm => by simpa using hb b hm⟩

/-! ## The pins (R136) -/

theorem powerOnValues (s : State) (on : Bool) (rate : LineRate) :
    PowerOnValues { State.reset with rstn := on, lineRate := rate, pending := s.pending, freeSeed := s.freeSeed } where
  cells _ := rfl
  modifications := rfl
  pointers := ⟨rfl, rfl⟩
  waiting _ := ⟨getAt_replicate .., getAt_replicate ..⟩
  entries _ := getAt_replicate ..
  holdUnit := ⟨rfl, rfl, rfl, rfl⟩
  watches := rfl
  queues _ := rfl
  pool := rfl
  faults l := by
    have h : ∀ u : State, u.faultRecord l = {} → (∀ c, u.policy l c = .refuse) ∧ (∀ c, getAt (u.faultRecord l).occurred (classIndex c) = false) ∧
        (u.faultRecord l).lost = false ∧ (u.faultRecord l).designation = none := fun u hu => by
      simp only [State.policy, hu]
      exact ⟨fun _ => getAt_replicate .., fun _ => getAt_replicate .., trivial, trivial⟩
    exact h _ (getAt_replicate ..)
  sessions _ := getAt_replicate ..
  links _ := getAt_replicate ..
  hub := ⟨rfl, rfl, rfl, rfl⟩
  configuration := rfl
  detections := ⟨rfl, rfl⟩
  counters := rfl
  scrub := rfl
  forwardPosts := rfl

/-- A hub at its power-on values has nothing due and nothing waiting. -/
theorem PowerOnValues.settled (h : PowerOnValues t) : t.settled = true := by
  have hc : ∀ l, t.closeDue l = none := fun l => by simp [State.closeDue, h.sessions l]
  simp [State.settled, State.inProgress, h.forwardPosts, h.holdUnit.2.2.2, hc]

theorem PowerOnValues.command (h : PowerOnValues t) : t.command l tag r f = .next t := by
  have hs := State.settle_of_settled h.settled
  obtain ⟨hcell, hqueue⟩ := h.waiting l
  have hinbox : (t.link l).inbox = [] := by rw [h.links l]
  have hq : t.queueTurn = none := by
    have : t.queueChoice = none := chooseFrom_none fun k => by rw [(h.waiting k).2]; rfl
    simp [State.queueTurn, this]
  unfold State.command
  split
  · exact State.commandAtArrival_not_taken (by rw [hs]; exact State.takeArrived_eq_none (.inr (by rw [hinbox]; exact nofun)))
  · exact State.commandQueue_not_taken (State.takeInside_of_idle (State.settled_idle h.settled) _ _)
      (by rw [hs]; exact State.takeQueue_eq_none (by rw [hq]; exact nofun))
  · split
    · exact State.commandCell_not_taken (by rw [hs]; exact State.takeCell_eq_none (.inr (by rw [hcell]; exact nofun)))
    · exact State.commandInOrder_not_taken (by rw [hs]; exact State.takeInOrder_eq_none (.inr (by rw [hcell]; exact nofun)))

/-- While RSTn is low nothing is taken from a hub at its power-on values. -/
theorem PowerOnValues.exec (h : PowerOnValues t) (hr : t.rstn = false) (c : Instr) (hon : ∀ rate, c ≠ .powerOn rate) (hoff : c ≠ .rstnAsserted) :
    Machine.exec c t = .next t := by
  have hs := State.settle_of_settled h.settled
  have hidle := State.settled_idle h.settled
  have hlink := h.links
  obtain ⟨hholds, _, hdrains, hdraining⟩ := h.holdUnit
  cases commandKind c with
  | request l tag r =>
    obtain ⟨f, hf⟩ := exec_commandOf l tag r
    rw [hf]; exact h.command
  | powerOn rate => exact absurd rfl (hon rate)
  | rstnAsserted => exact absurd rfl hoff
  | resetComplete => show execResetComplete t = _; simp [execResetComplete, hr]
  | storageUpset c => show execStorageUpset c t = _; simp [execStorageUpset, hr]
  | lineByteArrival l b => show execLineByteArrival l b t = _; simp [execLineByteArrival, hr]
  | partialTimeout l =>
    show execPartialTimeout l t = _
    rw [execPartialTimeout, State.lapsePartial_of_not_due hs (by simp [State.gapDue, hlink])]
  | resync l => show execResync l t = _; simp [execResync, hr]
  | forwardPost => show execForwardPost t = _; simp [execForwardPost, State.takeForwardPost, h.forwardPosts]
  | drain => show execDrain t = _; simp [execDrain, hs, hdrains, hdraining]
  | holdExpiry c =>
    show execHoldExpiry c t = _
    rw [execHoldExpiry, State.lapseHold_of_not_due hs (by simp [State.dueHold, hholds])]
  | waitingTakeExpiry q =>
    show execWaitingTakeExpiry q t = _
    rw [execWaitingTakeExpiry, State.lapseTake_of_not_due hs (by simp [State.dueTake, h.queues q])]
  | leaseExpiry l =>
    show execLeaseExpiry l t = _
    rw [execLeaseExpiry, State.lapseLease_of_not_due hs (by simp [State.leaseDue, h.sessions l])]
  | cleanTeardown l =>
    show execCleanTeardown l t = _
    simp [execCleanTeardown, State.finishOperation_of_idle hidle, State.settled_closeDue h.settled l]
  | transmitterChoice l =>
    show execTransmitterChoice l t = _
    have hc : t.changedCells l = [] := by simp [State.changedCells, h.watches]
    simp [execTransmitterChoice, hlink, hidle, hs, State.choose, State.chooseReport, hc, lowest]
  | frameSent l => show execFrameSent l t = _; simp [execFrameSent, hlink]

/-! ## The storage (R14) -/

theorem Cell.upset_eq (x : Cell) : x.upset = if x.poisoned then x else { x with checkFails := true } := rfl

end Sys2Proof.Machine

namespace Sys2Proof.Proofs

open Sys2Proof.Machine

/-- Settles O1. -/
theorem stepRunsTheFrontCommand : Obligations.StepRunsTheFrontCommand := fun c rest s h => by
  simp only [step, h]

/-- Settles O3: the pins bring the power-on values, and nothing is due or waits in them. -/
theorem pinsResetEveryBlock : Obligations.PinsResetEveryBlock :=
  ⟨⟨powerOnValues State.reset true .r115200, fun rate s => ⟨_, rfl, powerOnValues s true rate, rfl, rfl⟩⟩,
    fun s => ⟨_, rfl, powerOnValues s false s.lineRate, rfl⟩, fun c _ h hr hon hoff => h.exec hr c hon hoff⟩

/-- Settles O4. -/
theorem resetCompleteMakesReady : Obligations.ResetCompleteMakesReady := fun s => by
  constructor
  · intro hr hh; exact if_pos ⟨hr, hh⟩
  · intro hh
    exact if_neg fun h => by rw [hh] at h; cases h.2

/-- Settles O5: outside the scrub the cell's check fails; during it the free value decides whether it does. -/
theorem storageUpsetIsLatent : Obligations.StorageUpsetIsLatent := fun s c hr => by
  have hother : ∀ (u : State) (x : Cell) (k : CellIx), k ≠ c → u.cells = s.cells → (u.setCell c x).cell k = s.cell k := fun u x k hk hu => by
    rw [State.setCell_cell_ne u hk, State.cell_congr hu]
  by_cases hs : s.scrubbing = true
  · by_cases hp : Config.scrubHasPassed s.freeSeed c = true
    · refine ⟨State.setCell { s with freeSeed := s.freeSeed + 1 } c (s.cell c).upset, ?_, fun k hk => hother _ _ k hk rfl,
        fun h => absurd hs (by simp [h]), fun _ => ⟨rfl, ?_⟩⟩
      · show execStorageUpset c s = _
        simp only [execStorageUpset, hr, hs, hp, if_true]
        rfl
      · rw [State.setCell_cell_same, Cell.upset_eq]
        split
        · exact .inl rfl
        · exact .inr rfl
    · refine ⟨{ s with freeSeed := s.freeSeed + 1 }, ?_, fun _ _ => rfl, fun h => absurd hs (by simp [h]), fun _ => ⟨rfl, .inl rfl⟩⟩
      show execStorageUpset c s = _
      simp [execStorageUpset, hr, hs, hp]
  · refine ⟨s.setCell c (s.cell c).upset, ?_, fun k hk => hother s _ k hk rfl, fun _ => ⟨rfl, ?_⟩, fun h => absurd h hs⟩
    · show execStorageUpset c s = _
      simp [execStorageUpset, hr, hs]
    · rw [State.setCell_cell_same, Cell.upset_eq]

/-- Settles O6: each arbiter chooses the first link from its pointer on, and a request whose turn it is not is not taken. -/
theorem arbitersTakeInRotation : Obligations.ArbitersTakeInRotation := by
  refine ⟨fun s l w hr => ⟨fun hd => ?_, ?_, fun hp => ?_⟩, fun s => ⟨fun hd => ?_, fun hp => ?_⟩, fun s => ⟨fun p rest hr hp => ?_, fun hp => ?_, fun hr => ?_⟩,
    fun s l => ⟨fun w => ?_, ?_⟩, fun s l k w tag r hs hturn hhead hr => ?_, fun s k tag r hs => ⟨fun hr hturn => ?_, fun hr hturn => ?_, fun hr hhead => ?_⟩⟩
  · rw [State.cellTurn, State.resetStands, hr, hd]
    exact chooseFrom_eq_some
  · rw [State.queueChoice, chooseFrom_eq_some]
    simp only [List.head?_eq_none_iff]
  · simp [State.queueTurn, State.resetStands, hr, hp]
  · simp [State.cellTurn, hd]
  · simp [State.queueTurn, hp]
  · exact State.insideTurn_of_post hp hr
  · cases hd : s.draining <;> simp [State.insideTurn, hp, hd]
  · exact State.insideTurn_of_resetStands (Option.isSome_iff_ne_none.mpr hr)
  · rw [State.cellHead_some]
    simp only [← isCellOperation_eq_false, Bool.not_eq_false]
    rfl
  · simp only [← isCellOperation_eq_false, State.cellHead, List.find?_eq_none, Bool.not_eq_true]
    rfl
  · obtain ⟨f, hf⟩ := exec_commandOf k tag r
    rw [hf, State.command_cell hr]
    refine State.commandCell_not_taken ?_
    rw [State.settle_of_settled hs]
    by_cases he : (l, w) = (k, ⟨tag, r⟩)
    · cases he; exact State.takeCell_eq_none (.inr hhead)
    · exact State.takeCell_eq_none (.inl (by rw [hturn]; simpa using he))
  · obtain ⟨f, hf⟩ := exec_commandOf k tag r
    rw [hf, State.command_cell hr]
    exact State.commandCell_not_taken (by rw [State.settle_of_settled hs]; exact State.takeCell_eq_none (.inl hturn))
  · obtain ⟨f, hf⟩ := exec_commandOf k tag r
    rw [hf, State.command_queue hr]
    exact State.commandQueue_not_taken (State.takeInside_of_idle (State.settled_idle hs) _ _)
      (by rw [State.settle_of_settled hs]; exact State.takeQueue_eq_none hturn)
  · obtain ⟨f, hf⟩ := exec_commandOf k tag r
    rw [hf, State.command_inOrder (isCellOperation_eq_false.mpr hr)]
    exact State.commandInOrder_not_taken (by rw [State.settle_of_settled hs]; exact State.takeInOrder_eq_none (.inr hhead))

/-- Settles O10: the three cases of the window. -/
theorem windowTakesAtMostFour : Obligations.WindowTakesAtMostFour := fun s l f => by
  refine ⟨fun h => ?_, fun h hm => ?_, fun h hm => ⟨fun hr => ?_, fun hr => ?_⟩⟩
  · exact if_pos h
  · exact (if_neg (Nat.not_le.mpr h)).trans (if_pos hm)
  · refine (if_neg (Nat.not_le.mpr h)).trans ((if_neg hm).trans (if_neg ?_))
    simp [State.resetStands, hr]
  · refine (if_neg (Nat.not_le.mpr h)).trans ((if_neg hm).trans ((if_pos ?_).trans ?_))
    · exact Option.isSome_iff_ne_none.mpr hr
    · rw [State.updLink_eq_withLink, State.updLink_eq_withLink, State.withLink_link_same, State.withLink_withLink]

/-- Settles O52: while a reset request stands settling does nothing and no block takes work. -/
theorem noWorkWhileAResetRequestStands : Obligations.NoWorkWhileAResetRequestStands := fun s r hr => by
  have h : s.resetStands = true := by simp [State.resetStands, hr]
  have hs := State.settle_of_resetStands h
  refine ⟨fun q l tag => exec_request_of_resetStands h l tag q, if_pos h, if_pos h, fun c => ?_, fun q => ?_, fun l => ?_, fun l => if_pos h⟩
  · show execHoldExpiry c s = _
    simp [execHoldExpiry, State.lapseHold, hs, h]
  · show execWaitingTakeExpiry q s = _
    rw [execWaitingTakeExpiry, State.lapseTake_of_resetStands h]
  · show execLeaseExpiry l s = _
    simp [execLeaseExpiry, State.lapseLease, hs, h]

end Sys2Proof.Proofs
end

section
/-! PROOF. Faults by their policy (R123 to R127), the fault unit's requests (R128 to R131) and hub control (R143, R147, R150). -/

set_option Elab.async false

namespace Sys2Proof.Machine

variable {s t : State} {l : Link} {tag : Tag} {o : Faulting} {f : HubFault}

/-! ## A fault by its policy (R123 to R127) -/

@[simp] theorem State.markOccurred_policy (s : State) (l : Link) (c k : FaultClass) : (s.markOccurred l c).policy l k = s.policy l k := by
  simp [State.policy, State.markOccurred]

@[simp] theorem State.markOccurred_designation (s : State) (l : Link) (c : FaultClass) :
    ((s.markOccurred l c).faultRecord l).designation = (s.faultRecord l).designation := by simp [State.markOccurred]

/-- The fault record of a link once a fault of the given class has been raised. -/
def FaultRecord.flagged (r : FaultRecord) (c : FaultClass) : FaultRecord := { r with occurred := setAt r.occurred (classIndex c) true }

theorem State.markOccurred_eq (s : State) (l : Link) (c : FaultClass) :
    s.markOccurred l c = { s with faults := setAt s.faults l ((s.faultRecord l).flagged c) } := rfl

/-- A lost forward post sets both flags and answers with the default result. -/
theorem State.markOccurred_finishForward_false (s : State) (o : Faulting) (c : FaultClass) :
    (s.markOccurred o.link c).finishForward o false =
      State.withReply { s with faults := setAt s.faults o.link { (s.faultRecord o.link).flagged c with lost := true } } o.link
        ⟨o.kind + 0x80, o.tag, .okDefaultLost, o.fields⟩ := by
  have hlost : (s.markOccurred o.link c).markLost o.link =
      { s with faults := setAt s.faults o.link { (s.faultRecord o.link).flagged c with lost := true } } := by
    simp [State.markLost, State.markOccurred_eq, State.setFaultRecord, State.faultRecord]
  rw [State.finishForward, if_neg Bool.false_ne_true, hlost]
  rfl

theorem State.raise_refuse (h : s.policy o.link f.code.faultClass = .refuse) (resume : Option CellIx) :
    s.raise o f resume = s.withRefusal o.link o.tag o.kind f := by
  simp only [State.raise, State.markOccurred_policy, h]; rfl

theorem State.raise_absorb (h : s.policy o.link f.code.faultClass = .absorb) (resume : Option CellIx) :
    s.raise o f resume = (s.markOccurred o.link f.code.faultClass).withReply o.link ⟨o.kind + 0x80, o.tag, .okDefault, o.fields⟩ := by
  simp only [State.raise, State.markOccurred_policy, h]; rfl

theorem State.raise_lost (h : s.policy o.link f.code.faultClass = .forward) (hd : (s.faultRecord o.link).designation = none)
    (resume : Option CellIx) : s.raise o f resume = (s.markOccurred o.link f.code.faultClass).finishForward o false := by
  simp only [State.raise, State.markOccurred_policy, State.markOccurred_designation, h, hd]

theorem State.raise_forward {q : QueueIx} (h : s.policy o.link f.code.faultClass = .forward)
    (hd : (s.faultRecord o.link).designation = some q) (resume : Option CellIx) :
    s.raise o f resume = { s.markOccurred o.link f.code.faultClass with
      forwardPosts := s.forwardPosts ++ [⟨o.link, o.tag, o.kind, o.fields, q, faultRecordBytes f o.kind o.tag, resume, s.queueChoice⟩] } := by
  simp only [State.raise, State.markOccurred_policy, State.markOccurred_designation, h, hd]; rfl

/-- Within a queue operation a fault is dealt with as outside one, unless its policy is FORWARD with a designation. -/
theorem State.raiseInQueue_eq_raise (h : s.policy o.link f.code.faultClass = .forward → (s.faultRecord o.link).designation = none) :
    s.raiseInQueue o f = s.raise o f none := by
  cases hp : s.policy o.link f.code.faultClass with
  | refuse => simp only [State.raise, State.raiseInQueue, State.markOccurred_policy, hp]
  | absorb => simp only [State.raise, State.raiseInQueue, State.markOccurred_policy, hp]
  | forward => simp only [State.raise, State.raiseInQueue, State.markOccurred_policy, State.markOccurred_designation, hp, h hp]

theorem State.raiseInQueue_forward {q : QueueIx} (h : s.policy o.link f.code.faultClass = .forward)
    (hd : (s.faultRecord o.link).designation = some q) :
    s.raiseInQueue o f =
      match (s.markOccurred o.link f.code.faultClass).placeForward q (faultRecordBytes f o.kind o.tag) with
      | (placed, t) => t.finishForward o placed := by
  simp only [State.raiseInQueue, State.markOccurred_policy, State.markOccurred_designation, h, hd]

theorem State.raiseInQueue_refuse (h : s.policy o.link f.code.faultClass = .refuse) :
    s.raiseInQueue o f = s.withRefusal o.link o.tag o.kind f := by
  rw [State.raiseInQueue_eq_raise (by simp [h]), State.raise_refuse h]

theorem State.raiseInQueue_absorb (h : s.policy o.link f.code.faultClass = .absorb) :
    s.raiseInQueue o f = (s.markOccurred o.link f.code.faultClass).withReply o.link ⟨o.kind + 0x80, o.tag, .okDefault, o.fields⟩ := by
  rw [State.raiseInQueue_eq_raise (by simp [h]), State.raise_absorb h]

/-! ## Requests taken at arrival -/

theorem State.takesArrived.exec {r : Request} {g : State → State} (ht : s.takesArrived l tag r)
    (hg : Machine.exec (commandOf l tag r) s = s.commandAtArrival l tag r g) :
    Machine.exec (commandOf l tag r) s = .next ((g (s.arrivalTaken l)).route l) := by
  rw [hg, State.commandAtArrival_of_takes ht]

theorem State.arrivalTaken_link_same (s : State) (l : Link) :
    (s.arrivalTaken l).link l = { s.link l with inbox := (s.link l).inbox.drop 1 } := getAt_setAt_same ..

theorem State.arrivalTaken_link_ne (s : State) {l k : Link} (h : k ≠ l) : (s.arrivalTaken l).link k = s.link k := getAt_setAt_ne _ h _

theorem flagByte_decide {p : Prop} {_ : Decidable p} : flagByte (decide p) = if p then 1 else 0 := by simp [flagByte]

@[simp] theorem State.arrivalTaken_inFlight (s : State) (l : Link) : (s.arrivalTaken l).inFlight l = (s.link l).tags.length := by
  rw [State.inFlight, State.arrivalTaken_link_same]

/-- A queue's index is never the field that names no queue. -/
theorem queueField_ne_noQueue (q : QueueIx) : queueField q ≠ 0xFF := by
  have := q.isLt
  intro h
  have := congrArg BitVec.toNat h
  simp [queueField] at this
  omega

theorem State.takeSetForward_absent {q : QueueIx} (h : s.queue q = none) (l : Link) (tag : Tag) :
    s.takeSetForward l tag (queueField q) = s.raise ⟨l, tag, 0x32, [0xFF]⟩ ⟨.queueAbsent, (queueField q).setWidth 16, 0⟩ none := by
  simp only [State.takeSetForward, if_neg (queueField_ne_noQueue q), queueOf_queueField, h]
  rfl

theorem State.takeSetForward_queue {q : QueueIx} {d : Queue} (h : s.queue q = some d) (l : Link) (tag : Tag) :
    s.takeSetForward l tag (queueField q) = s.designate l tag (some q) := by
  simp only [State.takeSetForward, if_neg (queueField_ne_noQueue q), queueOf_queueField, h]

/-- The subject of a fault that names a queue by its index. -/
theorem queueField_setWidth (q : QueueIx) : (queueField q).setWidth 16 = BitVec.ofNat 16 q.val := by
  have := q.isLt
  apply BitVec.eq_of_toNat_eq
  simp [queueField]
  omega

end Sys2Proof.Machine

namespace Sys2Proof.Proofs

open Sys2Proof.Machine

/-- Settles O47: the flag is set first, which leaves policy and designation as they were, and each policy is one branch. -/
theorem faultPolicyDecidesTheReply : Obligations.FaultPolicyDecidesTheReply := by
  refine ⟨fun s o f resume => ⟨fun h => State.raise_refuse h resume, fun h => State.raise_absorb h resume,
      fun h hd => (State.raise_lost h hd resume).trans (State.markOccurred_finishForward_false ..),
      fun h q hd => State.raise_forward h hd resume⟩,
    fun s o f => ⟨State.raiseInQueue_refuse, State.raiseInQueue_absorb,
      fun h hd => ?_, fun h q hd => ⟨fun hlost => ?_, fun d hq hplace => ?_⟩⟩⟩
  · rw [State.raiseInQueue_eq_raise fun _ => hd, State.raise_lost h hd]
    exact State.markOccurred_finishForward_false ..
  · rw [State.raiseInQueue_forward h hd, State.placeForward_lost (s := s.markOccurred o.link f.code.faultClass) hlost]
    exact State.markOccurred_finishForward_false ..
  · obtain ⟨t, ht, hp⟩ := State.placeForward_placed (s := s.markOccurred o.link f.code.faultClass) hq hplace (faultRecordBytes f o.kind o.tag)
    refine ⟨t, hp, ?_⟩
    rw [State.raiseInQueue_forward h hd, ht]
    rfl

/-- Settles O48. -/
theorem policyRequestsChangeTheFaultRecord : Obligations.PolicyRequestsChangeTheFaultRecord := by
  refine fun s l tag => ⟨fun cls policy ht => ⟨fun h => ?_, fun x hx hc hp => ?_⟩, fun ht => ht.exec rfl, fun queue ht =>
    ⟨?_, fun q d hq hd => ?_, fun q hq hd => ?_, fun hlarge hne => ?_⟩⟩
  · have hn : ¬(cls = .form ∧ policy ≠ .refuse) := by tauto
    refine (ht.exec rfl).trans ?_
    rw [State.takeSetPolicy, if_neg hn]
    rfl
  · refine (ht.exec rfl).trans ?_
    have hs : ((s.arrivalTaken l).session l).isSome = true := Option.isSome_of_eq_some hx
    rw [State.takeSetPolicy, if_pos ⟨hc, hp⟩, State.refuseForm, if_pos hs]
    rfl
  · rintro rfl
    exact ht.exec rfl
  · subst hq
    refine (ht.exec rfl).trans ?_
    rw [State.takeSetForward_queue (s := s.arrivalTaken l) hd]
    rfl
  · subst hq
    refine (ht.exec rfl).trans ?_
    rw [State.takeSetForward_absent (s := s.arrivalTaken l) hd, queueField_setWidth]
  · refine (ht.exec rfl).trans ?_
    rw [State.takeSetForward, if_neg hne, queueOf_of_large hlarge]

/-- Settles O23: the replies are laid out from the state in which the request was taken, which differs from the one before in the arrivals only. -/
theorem queriesReportTheState : Obligations.QueriesReportTheState := by
  refine fun s l tag => ⟨fun echo ht => (ht.exec rfl).trans ?_, fun x ht hx => (ht.exec rfl).trans ?_, fun ht => ht.exec rfl⟩
  · rw [State.takePing, State.arrivalTaken_inFlight]
    rfl
  · rw [State.takeQuerySession, show (s.arrivalTaken l).session l = some x from hx]
    simp only [State.sessionFields, State.arrivalTaken_inFlight, flagByte_decide]
    rfl

/-- Settles O50: the branches of R143's checks. -/
theorem configureSetsAllThreeFields : Obligations.ConfigureSetsAllThreeFields := by
  intro s l tag threshold limit label ht
  have hexec := ht.exec rfl
  refine ⟨fun h1 h2 h3 => ?_, fun h1 => ?_, fun h1 h2 => ?_, fun h1 h2 h3 => ?_⟩ <;> refine hexec.trans ?_
  · rw [State.takeConfigure, State.arrivalTaken_admin, if_neg (Nat.not_lt.mpr h1), if_neg h2, if_neg (not_not.mpr h3)]
    rfl
  · rw [State.takeConfigure, if_pos h1]
    rfl
  · rw [State.takeConfigure, if_neg (Nat.not_lt.mpr h1), if_pos h2, h2]
    rfl
  · rw [State.takeConfigure, State.arrivalTaken_admin, if_neg (Nat.not_lt.mpr h1), if_neg h2, if_pos h3]
    rfl

/-- Settles O51: with the reset request set, SES looks at no further arrival. -/
theorem hubResetSetsTheResetRequest : Obligations.HubResetSetsTheResetRequest := by
  intro s l tag scope ht
  have hexec := ht.exec rfl
  refine ⟨fun h => ?_, fun h => ?_⟩ <;> refine hexec.trans ?_
  · rw [State.takeHubReset, State.arrivalTaken_admin, if_neg (not_not.mpr h), State.route_of_reset rfl]
    cases scope <;> rfl
  · rw [State.takeHubReset, State.arrivalTaken_admin, if_pos h]
    rfl

end Sys2Proof.Proofs
end

section
/-! PROOF. Sessions: SES at arrival (R104, R105), OPEN and CLOSE (R106 to R110), the lease (R113, R114), the teardowns (R115 to R118) and RESYNC (R161). -/

set_option Elab.async false

namespace Sys2Proof.Machine

variable {s t u v : State} {l : Link} {tag : Tag}

/-! ## What SES does with an arrival (R104) -/

theorem State.verdict_none {r : Request} (h : s.session l = none) :
    s.verdict l r = if isOpen r then (if s.hubState = .ready then .stay else .answer .resetting) else .answer .noSession := by
  simp [State.verdict, h]

theorem State.verdict_closing {x : Session} {r : Request} (h : s.session l = some x) (hp : x.phase = .closing) :
    s.verdict l r = if isPing r then .stay else .answer .closing := by simp [State.verdict, h, hp]

theorem State.verdict_attached {x : Session} (r : Request) (h : s.session l = some x) (hp : x.phase = .attached) :
    s.verdict l r = match destination r with | .atArrival => .stay | .cellLine => .handOn .cellLine | .queueLine => .handOn .queueLine := by
  cases hd : destination r <;> simp [State.verdict, h, hp, hd]

theorem State.route_stay {w : Waiting} {rest : List Waiting} (hr : s.resetStands = false) (hi : (s.link l).inbox = w :: rest)
    (hv : s.verdict l w.request = .stay) : s.route l = s := by
  rw [State.route_cons hr hi, hv]

theorem State.route_answer {w : Waiting} {rest : List Waiting} {status : Status} (hr : s.resetStands = false) (hi : (s.link l).inbox = w :: rest)
    (hv : s.verdict l w.request = .answer status) :
    s.route l = State.route ((s.withLink l { s.link l with inbox := rest }).withReply l ⟨requestKind w.request + 0x80, w.tag, status, []⟩) l := by
  rw [State.route_cons hr hi, hv]; rfl

theorem State.route_handOn {w : Waiting} {rest : List Waiting} {d : Destination} (hr : s.resetStands = false) (hi : (s.link l).inbox = w :: rest)
    (hv : s.verdict l w.request = .handOn d) : s.route l = ((s.withLink l { s.link l with inbox := rest }).handOn l w d).route l := by
  rw [State.route_cons hr hi, hv]; rfl

/-! ## The role when it leaves a session (R138, R141) -/

theorem Elected.congr (h : Elected u t l) (he : ∀ j, j ≠ l → u.eligible j = s.eligible j) (hl : ∀ j, j ≠ l → u.link j = s.link j)
    (hu : u.unreported = s.unreported) : Elected s t l where
  winner k hk := by
    obtain ⟨hne, hel, hlow⟩ := h.winner k hk
    exact ⟨hne, he k hne ▸ hel, fun j hj hjl => he j hjl ▸ hlow j hj hjl⟩
  vacant hn j hj := he j hj ▸ h.vacant hn j hj
  gainer k hk := by
    have hne := (h.winner k hk).1
    rw [← hl k hne, ← hu]; exact h.gainer k hk
  otherLinks k hk hn := (h.otherLinks k hk hn).trans (hl k hk)

/-- The session that the role leaves, when it is not ATTACHED, only loses its INTEGRITY report. -/
theorem State.vacateAdmin_link_same (h : s.admin = some l) (ha : s.attached l = false) :
    (s.vacateAdmin l).link l = { s.link l with reports := { (s.link l).reports with integrity := false } } := by
  have hne : s.admin ≠ s.candidate l := fun hc => (State.candidate_some (hc.symm.trans h)).1 rfl
  rw [State.vacateAdmin, if_pos h, State.changeAdmin, if_neg hne, h]
  dsimp only
  rw [if_neg (by simp [ha])]
  cases hc : s.candidate l with
  | none => exact getAt_setAt_same ..
  | some k =>
    have hkl : l ≠ k := fun e => (State.candidate_some hc).1 e.symm
    dsimp only
    have hgain : ∀ t : State, ((t.pendRole k).pendIntegrity k).link l = t.link l ∧ (t.pendRole k).link l = t.link l := fun t =>
      ⟨(State.updLink_link_ne _ hkl _).trans (State.updLink_link_ne _ hkl _), State.updLink_link_ne _ hkl _⟩
    split
    · rw [(hgain _).1]; exact getAt_setAt_same ..
    · rw [(hgain _).2]; exact getAt_setAt_same ..

theorem State.vacateAdmin_of_ne (h : s.admin ≠ some l) : s.vacateAdmin l = s := if_neg h

/-- A vacant role goes to a session that opens (R139). -/
theorem State.changeAdmin_of_vacant (h : s.admin = none) (l : Link) :
    s.changeAdmin (some l) = { s with
      admin := some l
      links := setAt s.links l { s.link l with reports := { (s.link l).reports with
        role := true, integrity := (s.link l).reports.integrity || decide (0 < s.unreported) } } } := by
  have hne : s.admin ≠ some l := by simp [h]
  rw [State.changeAdmin, if_neg hne, h]
  by_cases hu : 0 < s.unreported <;>
    simp [hu, State.pendRole, State.pendIntegrity, State.updReports, State.updLink, State.link]

/-! ## The teardown (R115) -/

theorem State.giveUp_holds (s : State) (l : Link) : (s.giveUp l).holds = (s.consumeEntry l).holds ∧ (s.giveUp l).drains = (s.consumeEntry l).drains :=
  ⟨rfl, rfl⟩

theorem State.giveUp_entry_ne (s : State) {l k : Link} (h : k ≠ l) : (s.giveUp l).entry k = s.entry k := by
  have he : (s.giveUp l).entries = setAt (s.consumeEntry l).entries l {} := rfl
  rw [State.entry, he, getAt_setAt_ne _ h, (s.consumeEntry_lost l).rest]
  exact getAt_setAt_ne _ h _

theorem State.giveUp_watches (s : State) (l : Link) : (s.giveUp l).watches = s.watches.filter fun w => decide (w.link ≠ l) := by
  have he : (s.giveUp l).watches = (s.consumeEntry l).watches.filter fun w => decide (w.link ≠ l) := rfl
  rw [he, (s.consumeEntry_lost l).rest]

theorem State.giveUp_faultRecord (s : State) (l k : Link) : (s.giveUp l).faultRecord k = if k = l then {} else s.faultRecord k := by
  have he : (s.giveUp l).faults = setAt (s.consumeEntry l).faults l {} := rfl
  rw [State.faultRecord, he, getAt_setAt, (s.consumeEntry_lost l).rest]
  rfl

/-- The state in which the election of a teardown is held. -/
def State.withoutSession (s : State) (l : Link) : State :=
  { s with
    dwq := s.dwq.filter fun e => decide (e.link ≠ l)
    queues := s.queues.map fun e : QueueIx × Queue => (e.1, e.2.unbindFrom l)
    sessions := setAt s.sessions l none }

theorem State.detach_eq (s : State) (l : Link) : s.detach l = (s.withoutSession l).vacateAdmin l := rfl

/-- The effects of a teardown, before anything is done to the link unit. -/
theorem State.teardownEffects_tornDown (s : State) (l : Link) : TornDown s (s.teardownEffects l) l := by
  have hlost := s.consumeEntry_lost l
  have hg := s.giveUp_frame l
  have hd := (s.giveUp l).detach_frame l
  have hqueue : ∀ q, (s.teardownEffects l).queue q = (s.queue q).map (Queue.unbindFrom l) := fun q => by
    rw [State.teardownEffects_eq, State.detach_queue, State.queue_congr (s := s) (by rw [hg])]
  have hsession : ∀ k, (s.teardownEffects l).session k = if k = l then none else s.session k := fun k => by
    rw [State.teardownEffects_eq, State.detach_session, State.session_congr (s := s) (by rw [hg])]
  have hframe := s.teardownEffects_frame l
  have hadmin : (s.giveUp l).admin = s.admin := by rw [hg]
  have hlink : ∀ k, ((s.giveUp l).withoutSession l).link k = s.link k := State.link_congr (by rw [hg]; rfl)
  rw [State.teardownEffects_eq] at *
  refine ⟨?detached, ?entry, ?hold, ?noHold, ?deferred, ?watches, ?ownQueues, ?otherQueues, ?faults, ?role, ?roleKept, ?cells, ?otherSessions, ?otherEntries,
    ?otherFaults, ?counters, ?detections, ?otherLines, ?rest⟩
  case detached => rw [hsession, if_pos rfl]
  case entry => rw [State.entry_congr (s := s.giveUp l) (by rw [hd]), State.giveUp_entry]
  case hold =>
    intro c w hr hany
    obtain ⟨hrec, hdr⟩ := hlost.held c w hr hany
    exact ⟨by rw [hd]; exact hrec, by rw [hd]; exact hdr⟩
  case noHold =>
    intro hr
    obtain ⟨hrec, hdr⟩ := hlost.notHeld hr
    exact ⟨by rw [hd]; exact hrec, by rw [hd]; exact hdr⟩
  case deferred => rw [hd, hg]
  case watches => rw [hd]; exact s.giveUp_watches l
  case ownQueues =>
    intro q d hq ho
    rw [hqueue, hq, Option.map_some, Queue.unbindFrom, if_pos ho]
  case otherQueues =>
    intro q hq
    rw [hqueue]
    cases hqd : s.queue q with
    | none => rfl
    | some d => rw [Option.map_some, Queue.unbindFrom, if_neg (hq d hqd)]
  case faults => rw [State.faultRecord_congr (s := s.giveUp l) (by rw [hd]), State.giveUp_faultRecord, if_pos rfl]
  case role =>
    intro ha
    have hel : Elected ((s.giveUp l).withoutSession l) ((s.giveUp l).detach l) l := State.vacateAdmin_elected (hadmin.trans ha)
    refine hel.congr (fun j hj => State.eligible_congr ?_) (fun j _ => hlink j) (by rw [hg]; rfl)
    rw [State.session, State.withoutSession, getAt_setAt_ne _ hj, hg]
    rfl
  case roleKept =>
    intro ha
    have hv : (s.giveUp l).detach l = (s.giveUp l).withoutSession l := State.vacateAdmin_of_ne (s := (s.giveUp l).withoutSession l) (hadmin ▸ ha)
    rw [hv]
    exact ⟨hadmin, fun k _ => hlink k⟩
  case cells => rw [hd, hg]
  case otherSessions => intro k hk; rw [hsession, if_neg hk]
  case otherEntries =>
    intro k hk
    rw [State.entry_congr (s := s.giveUp l) (by rw [hd]), State.giveUp_entry_ne s hk]
  case otherFaults =>
    intro k hk
    rw [State.faultRecord_congr (s := s.giveUp l) (by rw [hd]), State.giveUp_faultRecord, if_neg hk]
  case counters => rw [hd, hg]; exact ⟨rfl, rfl⟩
  case detections => rw [hd, hg]; exact ⟨rfl, rfl⟩
  case otherLines => intro k _; rw [hd, hg]; exact ⟨rfl, rfl⟩
  case rest => rw [hframe]

theorem State.teardownEffects_link (s : State) (l k : Link) :
    ∃ a b, (s.teardownEffects l).link k = { s.link k with reports := { (s.link k).reports with role := a, integrity := b } } := by
  obtain ⟨a, b, h⟩ := (s.giveUp l).detach_link l k
  refine ⟨a, b, ?_⟩
  rw [State.teardownEffects_eq, h, State.link_congr (s := s) (by rw [State.giveUp_frame])]

/-- What a teardown then does to its own link's unit and lines is free. -/
theorem TornDown.then_link (h : TornDown s t l) (hr : v = { t with links := v.links, cellLines := v.cellLines, queueLines := v.queueLines })
    (hlink : ∀ k, k ≠ l → v.link k = t.link k) (hlines : ∀ k, k ≠ l → v.cellLine k = t.cellLine k ∧ v.queueLine k = t.queueLine k) :
    TornDown s v l where
  detached := (State.session_congr (by rw [hr]) l).trans h.detached
  entry := (State.entry_congr (by rw [hr]) l).trans h.entry
  hold c w hc ha := by
    obtain ⟨hrec, hdr⟩ := h.hold c w hc ha
    exact ⟨by rw [hr]; exact hrec, by rw [hr]; exact hdr⟩
  noHold hc := by
    obtain ⟨hrec, hdr⟩ := h.noHold hc
    exact ⟨by rw [hr]; exact hrec, by rw [hr]; exact hdr⟩
  deferred := by rw [hr]; exact h.deferred
  watches := by rw [hr]; exact h.watches
  ownQueues q d hq ho := (State.queue_congr (by rw [hr]) q).trans (h.ownQueues q d hq ho)
  otherQueues q hq := (State.queue_congr (by rw [hr]) q).trans (h.otherQueues q hq)
  faults := (State.faultRecord_congr (by rw [hr]) l).trans h.faults
  role ha := by
    have hadm : v.admin = t.admin := by rw [hr]
    obtain ⟨hw, hv, hg, ho⟩ := h.role ha
    refine ⟨fun k hk => hw k (hadm ▸ hk), fun hn => hv (hadm ▸ hn), fun k hk => ?_, fun k hk hn => ?_⟩
    · rw [hlink k (hw k (hadm ▸ hk)).1]; exact hg k (hadm ▸ hk)
    · rw [hlink k hk]; exact ho k hk (hadm ▸ hn)
  roleKept ha := by
    obtain ⟨hadm, hl⟩ := h.roleKept ha
    exact ⟨by rw [hr]; exact hadm, fun k hk => (hlink k hk).trans (hl k hk)⟩
  cells := by rw [hr]; exact h.cells
  otherSessions k hk := (State.session_congr (by rw [hr]) k).trans (h.otherSessions k hk)
  otherEntries k hk := (State.entry_congr (by rw [hr]) k).trans (h.otherEntries k hk)
  otherFaults k hk := (State.faultRecord_congr (by rw [hr]) k).trans (h.otherFaults k hk)
  counters := by rw [hr]; exact h.counters
  detections := by rw [hr]; exact h.detections
  otherLines k hk := ⟨(hlines k hk).1.trans (h.otherLines k hk).1, (hlines k hk).2.trans (h.otherLines k hk).2⟩
  rest := by rw [hr, h.rest]

/-- What was done to the link's own session record and unit before its teardown is lost in it. -/
theorem TornDown.after_link (h : TornDown u t l) (hr : u = { s with sessions := u.sessions, links := u.links })
    (hlink : ∀ k, k ≠ l → u.link k = s.link k) (hsession : ∀ k, k ≠ l → u.session k = s.session k) : TornDown s t l where
  detached := h.detached
  entry := h.entry
  hold c w hc ha := by
    obtain ⟨hrec, hdr⟩ := h.hold c w (by rw [State.entry_congr (by rw [hr])]; exact hc) (by rw [hr]; exact ha)
    exact ⟨by rw [hrec, hr], by rw [hdr, hr]⟩
  noHold hc := by
    obtain ⟨hrec, hdr⟩ := h.noHold (by rw [State.entry_congr (s := s) (by rw [hr])]; exact hc)
    exact ⟨by rw [hrec, hr], by rw [hdr, hr]⟩
  deferred := by rw [h.deferred, hr]
  watches := by rw [h.watches, hr]
  ownQueues q d hq ho := h.ownQueues q d ((State.queue_congr (by rw [hr]) q).trans hq) ho
  otherQueues q hq := by
    have hqu : u.queue q = s.queue q := State.queue_congr (by rw [hr]) q
    rw [← hqu]; exact h.otherQueues q fun d hd => hq d (hqu ▸ hd)
  faults := h.faults
  role ha := (h.role (by rw [hr]; exact ha)).congr (fun j hj => State.eligible_congr (hsession j hj)) hlink (by rw [hr])
  roleKept ha := by
    obtain ⟨hadm, hl⟩ := h.roleKept (by rw [hr]; exact ha)
    exact ⟨by rw [hadm, hr], fun k hk => (hl k hk).trans (hlink k hk)⟩
  cells := by rw [h.cells, hr]
  otherSessions k hk := (h.otherSessions k hk).trans (hsession k hk)
  otherEntries k hk := (h.otherEntries k hk).trans (State.entry_congr (by rw [hr]) k)
  otherFaults k hk := (h.otherFaults k hk).trans (State.faultRecord_congr (by rw [hr]) k)
  counters := by obtain ⟨h1, h2⟩ := h.counters; exact ⟨by rw [h1, hr], by rw [h2, hr]⟩
  detections := by obtain ⟨h1, h2⟩ := h.detections; exact ⟨by rw [h1, hr], by rw [h2, hr]⟩
  otherLines k hk := by
    obtain ⟨h1, h2⟩ := h.otherLines k hk
    exact ⟨by rw [h1, hr]; rfl, by rw [h2, hr]; rfl⟩
  rest := by rw [h.rest, hr]

/-- An abrupt teardown: the effects, and the link emptied. -/
theorem State.teardown_emptyLink (s : State) (l : Link) (k : LinkCounters) (ended : Option SessionEnded) (entry : Option LinkEntry) :
    TornDown s ((s.teardownEffects l).emptyLink l k ended entry) l ∧ ((s.teardownEffects l).emptyLink l k ended entry).cellLine l = [] ∧
      ((s.teardownEffects l).emptyLink l k ended entry).queueLine l = [] ∧
      ((s.teardownEffects l).emptyLink l k ended entry).link l =
        { s.link l with
          tags := [], heldFrames := [], inbox := [], replies := [], counters := k
          reports := { sessionEnded := ended, linkEntry := entry } } := by
  refine ⟨(s.teardownEffects_tornDown l).then_link (State.emptyLink_frame ..) (fun j hj => State.emptyLink_link_ne _ hj ..)
    (fun j hj => ⟨getAt_setAt_ne _ hj _, getAt_setAt_ne _ hj _⟩), getAt_setAt_same .., getAt_setAt_same .., ?_⟩
  obtain ⟨a, b, h⟩ := s.teardownEffects_link l l
  rw [State.emptyLink_link_same, h]

theorem State.leaseTeardown_eq (s : State) (l : Link) :
    s.leaseTeardown l = (s.teardownEffects l).emptyLink l ((s.teardownEffects l).link l).counters (s.sessionEndedOf l .lease)
      (noticeIfCounted ((s.teardownEffects l).link l).counters) := by
  have hc : (((s.teardownEffects l).clearLink l).link l).counters = ((s.teardownEffects l).link l).counters := by
    rw [State.clearLink, State.updLink_link_same]; rfl
  rw [← hc]; rfl

theorem State.doResync_of_session {x : Session} (h : s.session l = some x) :
    s.doResync l = (s.teardownEffects l).emptyLink l {} (s.sessionEndedOf l .resync) (some .resyncDone) := by
  rw [State.doResync, if_pos (Option.isSome_of_eq_some h)]; rfl

theorem State.doResync_of_none (h : s.session l = none) : s.doResync l = s.emptyLink l {} none (some .resyncDone) := by
  rw [State.doResync, if_neg (by simp [h]), State.sessionEndedOf, h]; rfl

theorem State.sessionEndedOf_some {x : Session} (h : s.session l = some x) (r : EndReason) :
    s.sessionEndedOf l r = some ⟨r, x.hostId, (s.link l).tags.length⟩ := by rw [State.sessionEndedOf, h]; rfl

/-! ## The lease (R113) -/

/-- A session with its lease renewed. -/
def Session.renewed (now : Clock) (x : Session) : Session := { x with deadline := leaseDeadline now x.period }

theorem State.renewLease_session (s : State) (l k : Link) :
    (s.renewLease l).session k = if k = l then (s.session l).map (Session.renewed s.clock) else s.session k := by
  unfold State.renewLease
  cases h : s.session l with
  | none => split <;> simp_all
  | some x => exact getAt_setAt ..

theorem State.renewLease_sessions (s : State) (l : Link) :
    (s.renewLease l).sessions = match s.session l with
      | none => s.sessions
      | some x => setAt s.sessions l (some (x.renewed s.clock)) := by
  unfold State.renewLease
  cases s.session l <;> rfl

theorem State.hunt_of_hunt (h : (s.link l).receiver = .hunt) : s.hunt l = s := by
  have hu : ({ s.link l with receiver := .hunt } : LinkUnit) = s.link l := by rw [← h]
  have hl : setAt s.links l (s.link l) = s.links := setAt_getAt ..
  rw [State.hunt, State.updLink, hu, hl]

/-! ## OPEN (R106, R107) -/

theorem State.identityHolder_none {host : Half} (h : ∀ k x, k ≠ l → s.session k = some x → x.hostId ≠ host) : s.identityHolder l host = none := by
  rw [State.identityHolder, List.find?_eq_none]
  intro k _
  cases hs : s.session k with
  | none => simp
  | some x => simpa using fun hk => h k x hk hs

theorem State.identityHolder_some {host : Half} {k : Link} {x : Session} (hk : k ≠ l) (hs : s.session k = some x) (hx : x.hostId = host)
    (hlow : ∀ j y, j < k → j ≠ l → s.session j = some y → y.hostId ≠ host) : s.identityHolder l host = some k := by
  have hall : allLinks = List.finRange 8 := by decide
  rw [State.identityHolder, hall, List.find?_eq_some_iff_getElem]
  refine ⟨by simp [hk, hs, hx], k.val, by simp, by simp, fun j hj => ?_⟩
  have hjk : (⟨j, by omega⟩ : Link) < k := hj
  simp only [List.getElem_finRange]
  cases hsj : s.session ⟨j, by omega⟩ with
  | none => simp [hsj]
  | some y =>
    by_cases hjl : (⟨j, by omega⟩ : Link) = l
    · simp [hjl]
    · simpa [hsj, hjl] using hlow _ y hjk hjl hsj

theorem State.attached_of_none (h : s.session l = none) : s.attached l = false := by simp [State.attached, h]

/-- An accepted OPEN, with the role if it is vacant and the session eligible (R107, R139). -/
theorem State.acceptOpen_eq (s : State) (l : Link) (tag : Tag) (host : Half) (eligible : Bool) (p : Byte) :
    let gains := eligible && decide (s.admin = none)
    let admin := if gains then some l else s.admin
    s.acceptOpen l tag host eligible p = State.withReply { s with
      sessions := setAt s.sessions l (some ⟨.attached, host, eligible, p, leaseDeadline s.clock p⟩)
      entries := setAt s.entries l {}
      faults := setAt s.faults l {}
      admin := admin
      links := setAt s.links l { s.link l with reports := { (s.link l).reports with
        role := (s.link l).reports.role || gains, integrity := (s.link l).reports.integrity || (gains && decide (0 < s.unreported)) } } } l
      ⟨0x81, tag, .ok, [BitVec.ofNat 8 l.val, if admin = some l then 1 else 0, p]⟩ := by
  let opened : State := { s with
    sessions := setAt s.sessions l (some ⟨.attached, host, eligible, p, leaseDeadline s.clock p⟩)
    entries := setAt s.entries l {}
    faults := setAt s.faults l {} }
  intro gains admin
  have hrole : (if eligible = true ∧ opened.admin = none then opened.changeAdmin (some l) else opened) = { opened with
      admin := admin
      links := setAt s.links l { s.link l with reports := { (s.link l).reports with
        role := (s.link l).reports.role || gains, integrity := (s.link l).reports.integrity || (gains && decide (0 < s.unreported)) } } } := by
    by_cases hg : eligible = true ∧ s.admin = none
    · obtain ⟨he, ha⟩ := hg
      have hgains : gains = true := by simp [gains, he, ha]
      rw [if_pos ⟨he, ha⟩, State.changeAdmin_of_vacant (s := opened) ha]
      simp only [admin, hgains, if_true, Bool.or_true, Bool.true_and]
      rfl
    · have hgains : gains = false := by simpa [gains] using hg
      have hl : setAt s.links l (s.link l) = s.links := setAt_getAt ..
      rw [if_neg hg]
      simp only [admin, hgains, Bool.or_false, Bool.false_and, Bool.false_eq_true, if_false, hl]
      rfl
  show State.answer (if eligible = true ∧ opened.admin = none then opened.changeAdmin (some l) else opened) l tag 0x01 .ok
    [countByte l.val, flagByte (decide ((if eligible = true ∧ opened.admin = none then opened.changeAdmin (some l) else opened).admin = some l)), p] = _
  rw [hrole, State.answer_eq_withReply, flagByte_decide]
  rfl

end Sys2Proof.Machine
end

section
/-! PROOF. The statements about sessions: SES at arrival, OPEN, CLOSE, the teardowns, RESYNC and the lease. -/

set_option Elab.async false

namespace Sys2Proof.Machine

variable {s t : State} {l : Link} {tag : Tag}

/-- Only on a DETACHED link of a READY hub, or for an ATTACHED session, is an OPEN left at arrival. -/
theorem State.verdict_open {host period : Half} {eligible : Bool} (h : s.verdict l (.openSession host eligible period) = .stay) :
    (s.session l = none → s.hubState = .ready) ∧ ∀ x, s.session l = some x → s.attached l = true := by
  refine ⟨fun hs => ?_, fun x hs => ?_⟩
  · rw [State.verdict_none hs] at h
    by_contra hne
    simp [isOpen, hne] at h
  · cases hp : x.phase with
    | attached => simp [State.attached, hs, hp]
    | closing => simp [State.verdict_closing hs hp, isPing] at h

/-- What the clean teardown does to its own link (R117). -/
theorem State.cleanTeardown_link_same (s : State) (l : Link) (tag : Tag) (h : (s.link l).tags = [tag]) :
    (s.cleanTeardown l tag).link l =
      { s.link l with
        tags := []
        replies := (s.link l).replies ++ [⟨0x82, tag, .ok, le 2 (s.hostId l)⟩]
        reports := { (s.link l).reports with
          role := false, integrity := false
          arrivals := (s.link l).reports.arrivals.filter fun q => !decide (((s.queue q).bind Queue.owner) = some l) } } := by
  obtain ⟨a, b, hl⟩ := s.teardownEffects_link l l
  rw [State.cleanTeardown, State.answer, State.placeReply, State.updLink_link_same, State.updReports, State.updLink_link_same, hl, h]
  simp
  rfl

theorem State.cleanTeardown_tornDown (s : State) (l : Link) (tag : Tag) : TornDown s (s.cleanTeardown l tag) l := by
  refine (s.teardownEffects_tornDown l).then_link rfl (fun k hk => ?_) fun _ _ => ⟨rfl, rfl⟩
  exact (getAt_setAt_ne _ hk _).trans (getAt_setAt_ne _ hk _)

theorem State.cleanTeardown_lines (s : State) (l k : Link) (tag : Tag) :
    (s.cleanTeardown l tag).cellLine k = s.cellLine k ∧ (s.cleanTeardown l tag).queueLine k = s.queueLine k := by
  have h : (s.teardownEffects l).cellLines = s.cellLines ∧ (s.teardownEffects l).queueLines = s.queueLines := by
    rw [State.teardownEffects_frame]; exact ⟨rfl, rfl⟩
  exact ⟨congrArg (getAt · k) h.1, congrArg (getAt · k) h.2⟩

/-- A RESYNC finds the lease renewed and the receiver in HUNT. -/
def State.resyncSeen (s : State) (l : Link) : State := (s.renewLease l).hunt l

theorem State.resyncSeen_frame (s : State) (l : Link) :
    s.resyncSeen l = { s with sessions := (s.renewLease l).sessions, links := setAt s.links l { s.link l with receiver := .hunt } } := by
  rw [State.resyncSeen, State.renewLease_frame]; rfl

theorem State.resyncSeen_link (s : State) (l k : Link) :
    (s.resyncSeen l).link k = if k = l then { s.link l with receiver := .hunt } else s.link k := by
  rw [State.resyncSeen_frame]; exact getAt_setAt ..

theorem State.resyncSeen_session (s : State) (l k : Link) :
    (s.resyncSeen l).session k = if k = l then (s.session l).map (Session.renewed s.clock) else s.session k := by
  rw [← State.renewLease_session, State.resyncSeen_frame]; rfl

theorem exec_resync (h : s.rstn = true) (hs : s.settle = s) (l : Link) : exec (.resync l) s = .next ((s.resyncSeen l).takeResync l) := by
  show execResync l s = _
  rw [execResync, if_pos h, hs]; rfl

end Sys2Proof.Machine

namespace Sys2Proof.Proofs

open Sys2Proof.Machine

/-- Settles O14: the table of R104 by the session's state and the request's owning block. -/
theorem sesSortsArrivals : Obligations.SesSortsArrivals := by
  intro s l w rest hreset hi
  have hr : s.resetStands = false := by simp [State.resetStands, hreset]
  refine ⟨fun hs => ⟨fun ho => ?_, fun ho hh => ?_, fun ho hh => ?_⟩, fun x hs hp => ⟨fun hping => ?_, fun hping => ?_⟩,
    fun x hs hp => ⟨fun hd => ?_, fun hd => ?_, fun hd => ?_⟩⟩
  · refine State.route_answer hr hi ?_
    rw [State.verdict_none hs, if_neg]
    exact Bool.eq_false_iff.mp ho
  · refine State.route_answer hr hi ?_
    rw [State.verdict_none hs, if_pos (show isOpen w.request = true from ho), if_neg (by simp [hh])]
  · refine State.route_stay hr hi ?_
    rw [State.verdict_none hs, if_pos (show isOpen w.request = true from ho), if_pos hh]
  · refine State.route_answer hr hi ?_
    rw [State.verdict_closing hs hp, if_neg]
    exact Bool.eq_false_iff.mp hping
  · refine State.route_stay hr hi ?_
    rw [State.verdict_closing hs hp, if_pos (show isPing w.request = true from hping)]
  · refine State.route_stay hr hi ?_
    rw [State.verdict_attached _ hs hp]
    revert hd; cases w.request <;> simp [destination]
  · refine (State.route_handOn (d := .cellLine) hr hi ?_).trans rfl
    rw [State.verdict_attached _ hs hp]
    revert hd; cases w.request <;> simp [destination]
  · refine (State.route_handOn (d := .queueLine) hr hi ?_).trans rfl
    rw [State.verdict_attached _ hs hp]
    revert hd; cases w.request <;> simp [destination]

/-- Settles O20: every check passes, and the role is vacant and gained or stays where it is. -/
theorem acceptedOpenAttachesTheSession : Obligations.AcceptedOpenAttachesTheSession := by
  intro s l tag host eligible period ht hs hh hhost hperiod hnew
  refine (ht.exec rfl).trans ?_
  have hatt : (s.arrivalTaken l).attached l = false := State.attached_of_none (s := s.arrivalTaken l) hs
  have hready : ¬(s.arrivalTaken l).hubState = .resetting := by rw [show (s.arrivalTaken l).hubState = s.hubState from rfl, hh]; nofun
  have hid : (s.arrivalTaken l).identityHolder l host = none := State.identityHolder_none (s := s.arrivalTaken l) hnew
  have haccept : (s.arrivalTaken l).takeOpen l tag host eligible period =
      (s.arrivalTaken l).acceptOpen l tag host eligible (period.setWidth 8) := by
    simp only [State.takeOpen, hatt, Bool.false_eq_true, if_false, if_neg hready, if_neg hhost, if_neg (Nat.not_lt.mpr hperiod), hid]
  rw [haccept, State.acceptOpen_eq, State.arrivalTaken_link_same]
  simp only [State.withReply, State.link, State.arrivalTaken, getAt_setAt_same, setAt_setAt]
  rfl

/-- Settles O21: the first failing check answers. -/
theorem refusedOpenChangesNoSession : Obligations.RefusedOpenChangesNoSession := by
  intro s l tag host eligible period ht
  have ⟨_, _, _, hstays⟩ := ht
  obtain ⟨hready, hattached⟩ := State.verdict_open hstays
  have hexec := ht.exec rfl
  have hatt (hs : s.session l = none) : (s.arrivalTaken l).attached l = false := State.attached_of_none (s := s.arrivalTaken l) hs
  have hh (hs : s.session l = none) : ¬(s.arrivalTaken l).hubState = .resetting := by
    rw [show (s.arrivalTaken l).hubState = s.hubState from rfl, hready hs]; nofun
  refine ⟨fun x hs => ?_, fun hs hz => ?_, fun hs hz hp => ?_, fun hs hz hp k x hk hsk hx hlow => ?_⟩ <;> refine hexec.trans ?_
  · have hatt : (s.arrivalTaken l).attached l = true := hattached x hs
    have hid : (s.arrivalTaken l).hostId l = x.hostId := by simp [State.hostId, show (s.arrivalTaken l).session l = some x from hs]
    rw [State.takeOpen, if_pos hatt, hid]
    rfl
  · rw [State.takeOpen, if_neg (by simp [hatt hs]), if_neg (hh hs), if_pos hz]
    rfl
  · rw [State.takeOpen, if_neg (by simp [hatt hs]), if_neg (hh hs), if_neg hz, if_pos hp]
    rfl
  · have hid : (s.arrivalTaken l).identityHolder l host = some k := State.identityHolder_some (s := s.arrivalTaken l) hk hsk hx hlow
    rw [State.takeOpen, if_neg (by simp [hatt hs]), if_neg (hh hs), if_neg hz, if_neg (Nat.not_lt.mpr hp), hid]
    rfl

/-- Settles O22: the session is no candidate any more when the election is held. -/
theorem closeMakesTheSessionClosing : Obligations.CloseMakesTheSessionClosing := by
  intro s l tag x ht hs
  let u := (s.arrivalTaken l).setSession l (some { x with phase := .closing })
  have hu : (s.arrivalTaken l).takeClose l = u.vacateAdmin l := by
    simp only [State.takeClose, show (s.arrivalTaken l).session l = some x from hs]
    rfl
  have hul : ∀ k, u.link k = (s.arrivalTaken l).link k := fun _ => rfl
  have hatt : u.attached l = false := by simp [u, State.attached]
  have hadmin : u.admin = s.admin := rfl
  refine ⟨u.vacateAdmin l, (ht.exec rfl).trans (by rw [hu]), ?_, ?_, fun ha => ?_, fun ha => ?_⟩
  · rw [State.vacateAdmin_frame]
    rfl
  · by_cases ha : s.admin = some l
    · rw [State.vacateAdmin_link_same (hadmin.trans ha) hatt, hul, State.arrivalTaken_link_same]
      simp [ha]
    · rw [State.vacateAdmin_of_ne (s := u) ha, hul, State.arrivalTaken_link_same]
      simp [ha]
  · refine (State.vacateAdmin_elected (hadmin.trans ha)).congr (fun j hj => State.eligible_congr ?_) (fun j hj => s.arrivalTaken_link_ne hj) rfl
    exact State.setSession_session_ne _ hj _
  · rw [State.vacateAdmin_of_ne (s := u) ha]
    exact ⟨rfl, fun k hk => s.arrivalTaken_link_ne hk⟩

/-- Settles O24: the lease is due, so the session is torn down and its link emptied. -/
theorem leaseExpiryTearsTheSessionDown : Obligations.LeaseExpiryTearsTheSessionDown := by
  intro s l x d hset hr hs hd hdue
  have hlease : s.leaseDue l = true := by
    simp only [State.leaseDue, hs, Option.bind_some, hd]
    exact decide_eq_true hdue
  obtain ⟨htorn, hc, hq, hl⟩ := s.teardown_emptyLink l ((s.teardownEffects l).link l).counters (s.sessionEndedOf l .lease)
    (noticeIfCounted ((s.teardownEffects l).link l).counters)
  rw [← State.leaseTeardown_eq] at htorn hc hq hl
  refine ⟨s.leaseTeardown l, ?_, htorn, hc, hq, ?_⟩
  · show execLeaseExpiry l s = _
    rw [execLeaseExpiry, State.lapseLease, State.settle_of_settled hset]
    simp only [State.resetStands, hr, hlease, Option.isSome_none, and_self, if_true]
  · obtain ⟨a, b, hlink⟩ := s.teardownEffects_link l l
    rw [hl, hlink, State.sessionEndedOf_some hs]
    rfl

/-- Settles O25: the CLOSE is due, and no operation is in progress. -/
theorem cleanTeardownAnswersTheClose : Obligations.CleanTeardownAnswersTheClose := by
  intro s l x tag hr hidle hs hp htags
  have hdue : s.closeDue l = some tag := by simp [State.closeDue, hs, hp, htags]
  have hhost : s.hostId l = x.hostId := by simp [State.hostId, hs]
  obtain ⟨hcells, hqueues⟩ := s.cleanTeardown_lines l l tag
  refine ⟨s.cleanTeardown l tag, ?_, s.cleanTeardown_tornDown l tag, hcells, hqueues, ?_⟩
  · show execCleanTeardown l s = _
    simp only [execCleanTeardown, State.resetStands, hr, Option.isSome_none, Bool.false_eq_true, if_false, State.finishOperation_of_idle hidle, hdue]
  · rw [State.cleanTeardown_link_same s l tag htags, hhost]

/-- Settles O15: RESYNC finds the lease renewed and the receiver in HUNT, which its own effects cover. -/
theorem resyncClearsTheLinkOrIsHeld : Obligations.ResyncClearsTheLinkOrIsHeld := by
  refine ⟨fun s l hrst hset hr => ⟨fun x hs => ?_, fun hs => ?_⟩, fun s l r hrst hr => ?_⟩
  · have hx : (s.resyncSeen l).session l = some (x.renewed s.clock) := by rw [State.resyncSeen_session, if_pos rfl, hs]; rfl
    have hstands : (s.resyncSeen l).resetStands = false := by rw [State.resyncSeen_frame]; simp [State.resetStands, hr]
    have hl : (s.resyncSeen l).link l = { s.link l with receiver := .hunt } := by rw [State.resyncSeen_link, if_pos rfl]
    obtain ⟨htorn, hc, hq, hlink⟩ := (s.resyncSeen l).teardown_emptyLink l {} ((s.resyncSeen l).sessionEndedOf l .resync) (some .resyncDone)
    refine ⟨_, ?_, htorn.after_link ?_ (fun k hk => ?_) (fun k hk => ?_), hc, hq, ?_⟩
    · rw [exec_resync hrst (State.settle_of_settled hset), State.takeResync, if_neg (by simp [hstands]), State.doResync_of_session hx]
    · rw [State.resyncSeen_frame]
    · rw [State.resyncSeen_link, if_neg hk]
    · rw [State.resyncSeen_session, if_neg hk]
    · rw [hlink, State.sessionEndedOf_some hx, hl]
      rfl
  · have hseen : s.resyncSeen l = s.withLink l { s.link l with receiver := .hunt } := by
      rw [State.resyncSeen_frame, State.renewLease_sessions, hs]; rfl
    have hnone : (s.resyncSeen l).session l = none := by rw [State.resyncSeen_session, if_pos rfl, hs]; rfl
    have hstands : (s.resyncSeen l).resetStands = false := by rw [State.resyncSeen_frame]; simp [State.resetStands, hr]
    rw [exec_resync hrst (State.settle_of_settled hset), State.takeResync, if_neg (by simp [hstands]), State.doResync_of_none hnone, hseen]
    simp only [State.emptyLink, State.clearLink, State.updLink, State.link, State.setCellLine, State.setQueueLine, State.withLink, getAt_setAt_same,
      setAt_setAt]
  · have hstands : s.resetStands = true := by simp [State.resetStands, hr]
    have hseen : (s.resyncSeen l).resetStands = true := by rw [State.resyncSeen_frame]; exact hstands
    have hl : (s.resyncSeen l).link l = { s.link l with receiver := .hunt } := by rw [State.resyncSeen_link, if_pos rfl]
    refine ⟨_, exec_resync hrst (State.settle_of_resetStands hstands) l, ?_, fun k hk => ?_, ?_⟩ <;> rw [State.takeResync, if_pos hseen, State.updLink_eq_withLink]
    · rw [hl, State.resyncSeen_frame]
      simp only [State.withLink, setAt_setAt]
    · exact (s.resyncSeen_session l k).trans (if_neg hk)
    · exact (s.resyncSeen_session l l).trans (if_pos rfl)

/-- Settles O11: the lease is renewed first, and neither the window nor SES touches a session. -/
theorem validFrameRenewsTheLease : Obligations.ValidFrameRenewsTheLease := by
  refine ⟨fun s l f hk hrst hset hrec => ?_, fun s l f hk => ?_⟩
  · have hl : ((s.renewLease l).link l).receiver = .hunt := by rw [State.renewLease_frame]; exact hrec
    rw [exec_resync hrst (State.settle_of_settled hset), State.resyncSeen, State.hunt_of_hunt hl, State.validFrame, if_pos (show f.kind = resyncKind from hk)]
  · have hv : s.validFrame l f = (s.renewLease l).windowFrame l f := if_neg hk
    have hsession : ∀ k, (s.validFrame l f).session k = (s.renewLease l).session k := fun k => by
      rw [hv]; exact State.session_congr (by rw [State.windowFrame_frame]) k
    refine ⟨fun x hs => ?_, fun hs => ?_, fun k hk => ?_, ?_⟩
    · rw [hsession, State.renewLease_session, if_pos rfl, hs]; rfl
    · rw [hsession, State.renewLease_session, if_pos rfl, hs]; rfl
    · rw [hsession, State.renewLease_session, if_neg hk]
    · rw [hv, State.renewLease_frame, State.renewLease_sessions]
      cases s.session l <;> rfl

end Sys2Proof.Proofs
end

section
/-! PROOF. The cell requests (R5 to R17, R44): the checks in their order, READ, WRITE, FETCH_ADD, SET_CELL_CLASS and the deferral. -/

set_option Elab.async false

namespace Sys2Proof.Machine

variable {s t u : State} {l : Link} {tag : Tag} {c : CellIx} {v : Quad} {j : Option Link}

theorem State.takesCell.exec {r : Request} {g : State → State} (ht : s.takesCell l tag r)
    (hg : Machine.exec (commandOf l tag r) s = s.commandCell l tag r g) : Machine.exec (commandOf l tag r) s = .next (g (s.cellTaken l)) := by
  rw [hg, State.commandCell_of_takes ht]

/-! ## Default results (R125) -/

theorem readDefault_eq : readDefault = List.replicate 12 0 := by decide

theorem writeDefault_eq : writeDefault false = List.replicate 5 0 ∧ writeDefault true = [0, 0, 0, 0, 1] := by decide

theorem fetchAddDefault_eq : fetchAddDefault false = List.replicate 13 0 ∧ fetchAddDefault true = List.replicate 12 0 ++ [1] := by decide

theorem commitDefault_eq : commitDefault false = List.replicate 6 0 ∧ commitDefault true = [0, 0, 0, 0, 0, 1] := by decide

theorem reserveDefault_eq (s : State) (l : Link) : s.reserveDefault l = List.replicate 13 0 ++ [BitVec.ofNat 8 (s.entry l).failures] := by
  have h : le 8 (0 : Quad) ++ le 4 (0 : Word) ++ [marksByte false false] = List.replicate 13 0 := by decide
  rw [← h]; rfl

theorem watchDefault_eq (n : Nat) : le 8 (0 : Quad) ++ le 4 (0 : Word) ++ [countByte n] = List.replicate 12 0 ++ [BitVec.ofNat 8 n] := by
  have h : le 8 (0 : Quad) ++ le 4 (0 : Word) = List.replicate 12 0 := by decide
  rw [h]; rfl

theorem setCellClassDefault_eq : ([0] : List Byte) ++ le 2 (0 : Half) = List.replicate 3 0 := by decide

/-! ## Write access and the checks (R5, R6) -/

theorem exists_session_of_attached (h : s.attached l = true) : ∃ x, s.session l = some x := Option.isSome_iff_exists.mp (State.attached_session h)

/-- The detail of a CELL_CLASS fault by the class (R121). -/
theorem cellClassDetail_openAll : cellClassDetail .openAll = 0 := by decide

theorem cellClassDetail_adminWrite : cellClassDetail .adminWrite = 0x00010000 := by decide

theorem cellClassDetail_owned (h : Half) : cellClassDetail (.owned h) = 0x00020000 + h.setWidth 32 := by
  rw [add_comm]; rfl

/-- A request that names a cell above 1023 takes its fault before any other check. -/
theorem exec_cellIndex_large {r : Request} {cell : Half} (hr : cellIndexOf r = some cell) (hc : 1023 < cell.toNat) (ht : s.takesCell l tag r) :
    exec (commandOf l tag r) s = .next ((s.cellTaken l).raise (faulting s l tag r) ⟨.cellIndex, cell, 0⟩ none) := by
  have hnone := cellOf_of_large hc
  cases r <;> cases hr <;> refine (ht.exec rfl).trans ?_
  · simp only [State.takeRead, hnone, readDefault_eq]; rfl
  · simp only [State.takeWrite, hnone, writeDefault_eq.1]; rfl
  · simp only [State.takeFetchAdd, hnone, fetchAddDefault_eq.1]; rfl
  · simp only [State.takeSetCellClass, hnone, setCellClassDefault_eq]; rfl
  · simp only [State.takeReserve, hnone, reserveDefault_eq]; rfl
  · simp only [State.takeCommit, hnone, commitDefault_eq.1]; rfl
  · simp only [State.takeWatch, hnone, watchDefault_eq]; rfl

/-- Without write access a modification or a RESERVE takes its ACCESS fault. -/
theorem exec_without_access {r : Request}
    (hr : r = .write (cellSubject c) v ∨ r = .fetchAdd (cellSubject c) v ∨ r = .reserve (cellSubject c) ∨ r = .commit (cellSubject c) v)
    (ht : s.takesCell l tag r) (ha : s.hasWriteAccess l c = false) :
    exec (commandOf l tag r) s =
      .next ((s.cellTaken l).raise (faulting s l tag r) ⟨.cellClass, cellSubject c, cellClassDetail (s.cell c).access⟩ none) := by
  have ha' : (s.cellTaken l).hasWriteAccess l c = false := ha
  rcases hr with rfl | rfl | rfl | rfl <;> refine (ht.exec rfl).trans ?_
  · simp only [State.takeWrite, cellOf_cellSubject, if_pos ha', writeDefault_eq.1]; rfl
  · simp only [State.takeFetchAdd, cellOf_cellSubject, if_pos ha', fetchAddDefault_eq.1]; rfl
  · simp only [State.takeReserve, cellOf_cellSubject, if_pos ha', reserveDefault_eq]; rfl
  · simp only [State.takeCommit, cellOf_cellSubject, if_pos ha', commitDefault_eq.1]; rfl

/-! ## What a request taken leaves: the terms of a modification say the same of the state before -/

theorem Modification.of_cellTaken {k : Link} (h : Modification (s.cellTaken k) t c v l j) : Modification s t c v l j :=
  ⟨h.stored, h.otherCells, h.entries, h.consumedEntry, h.watches, h.count⟩

theorem HoldsKept.of_cellTaken {k : Link} (h : HoldsKept (s.cellTaken k) t) : HoldsKept s t := ⟨h.records, h.drains⟩

theorem HoldEnds.of_cellTaken {k : Link} (h : HoldEnds (s.cellTaken k) t l c) : HoldEnds s t l c := ⟨h.record, h.drain⟩

theorem Modification.congr (h : Modification s u c v l j) (hc : t.cells = u.cells) (he : t.entries = u.entries) (hw : t.watches = u.watches)
    (hm : t.modifications = u.modifications) : Modification s t c v l j :=
  ⟨(State.cell_congr hc c).trans h.stored, fun k hk => (State.cell_congr hc k).trans (h.otherCells k hk),
    fun k hk => (State.entry_congr he k).trans (h.entries k hk), fun k hk => (State.entry_congr he k).trans (h.consumedEntry k hk),
    hw.trans h.watches, hm.trans h.count⟩

/-! ## WRITE and FETCH_ADD, direct and deferred (R8, R9, R55) -/

/-- A modification that no COMMIT makes, answered. -/
def State.modifyAnswered (s : State) (l : Link) (c : CellIx) (v : Quad) (r : Reply) : State :=
  { s.withReply l r with
    cells := (s.modify c v l none).cells
    entries := (s.modify c v l none).entries
    holds := (s.modify c v l none).holds
    drains := (s.modify c v l none).drains
    watches := (s.modify c v l none).watches
    modifications := (s.modify c v l none).modifications }

theorem State.modify_withReply (s : State) (l : Link) (c : CellIx) (v : Quad) (r : Reply) :
    (s.modify c v l none).withReply l r = s.modifyAnswered l c v r := by
  unfold State.modifyAnswered
  rw [State.modify_frame]; rfl

theorem State.modifyAnswered_modification (s : State) (l : Link) (c : CellIx) (v : Quad) (r : Reply) :
    Modification s (s.modifyAnswered l c v r) c v l none := (s.modify_spec c v l).congr rfl rfl rfl rfl

theorem State.modifyAnswered_holdsKept (h : s.holderOf c = none) (l : Link) (v : Quad) (r : Reply) : HoldsKept s (s.modifyAnswered l c v r) := by
  obtain ⟨hr, hd⟩ := State.modify_holdsKept h v l none
  exact ⟨hr, hd⟩

theorem State.modifyAnswered_holdEnds (h : s.holderOf c = some l) (he : ∃ w, (s.entry l).reservation = .held c w) (v : Quad) (r : Reply) :
    HoldEnds s (s.modifyAnswered l c v r) l c := by
  obtain ⟨w, he⟩ := he
  obtain ⟨hr, hd⟩ := State.modify_holdEnds h he v
  exact ⟨hr, hd⟩

theorem State.modify_version (s : State) (c : CellIx) (v : Quad) (l : Link) : ((s.modify c v l none).cell c).version = (s.cell c).version + 1 := by
  rw [(s.modify_spec c v l).stored]

theorem State.applyWrite_eq (s : State) (l : Link) (tag : Tag) (c : CellIx) (v : Quad) (deferred : Bool) :
    s.applyWrite l tag c v deferred =
      s.modifyAnswered l c v ⟨0x91, tag, .ok, le 4 ((s.cell c).version + 1) ++ [flagByte deferred]⟩ := by
  rw [← State.modify_withReply, ← State.modify_version s c v l]; rfl

theorem State.applyFetchAdd_good (hp : (s.cell c).poisoned = false) (hf : (s.cell c).checkFails = false) (l : Link) (tag : Tag) (v : Quad)
    (deferred : Bool) (resume : Option CellIx) :
    s.applyFetchAdd l tag c v deferred resume = s.modifyAnswered l c ((s.cell c).value + v)
      ⟨0x92, tag, .ok, le 8 (s.cell c).value ++ le 4 ((s.cell c).version + 1) ++ [flagByte deferred]⟩ := by
  rw [← State.modify_withReply, ← State.modify_version s c ((s.cell c).value + v) l]
  simp only [State.applyFetchAdd, State.accessCell_good hp hf]
  rfl

theorem State.applyFetchAdd_bad (h : (s.cell c).poisoned = true ∨ (s.cell c).checkFails = true) (l : Link) (tag : Tag) (v : Quad) (deferred : Bool)
    (resume : Option CellIx) : ∃ d code, MeetsBadValue s d c code ∧
      s.applyFetchAdd l tag c v deferred resume =
        d.raise ⟨l, tag, 0x12, fetchAddDefault deferred⟩ ⟨code, cellSubject c, (s.cell c).version⟩ resume := by
  obtain ⟨code, d, ha, hbad, hv⟩ := State.accessCell_bad h
  refine ⟨d, code, hbad, ?_⟩
  simp only [State.applyFetchAdd, ha, State.integrityFault, hv]

/-! ## The direct requests -/

theorem exec_write_applied (ht : s.takesCell l tag (.write (cellSubject c) v)) (ha : s.hasWriteAccess l c = true) (hh : s.heldByOther l c = false) :
    exec (.write l tag (cellSubject c) v) s = .next ((s.cellTaken l).applyWrite l tag c v false) := by
  refine (ht.exec rfl).trans ?_
  simp only [State.takeWrite, cellOf_cellSubject, State.cellTaken_hasWriteAccess, State.cellTaken_heldByOther, ha, hh, Bool.true_eq_false,
    Bool.false_eq_true, if_false]

theorem exec_fetchAdd_applied (ht : s.takesCell l tag (.fetchAdd (cellSubject c) v)) (ha : s.hasWriteAccess l c = true)
    (hh : s.heldByOther l c = false) :
    exec (.fetchAdd l tag (cellSubject c) v) s = .next ((s.cellTaken l).applyFetchAdd l tag c v false none) := by
  refine (ht.exec rfl).trans ?_
  simp only [State.takeFetchAdd, cellOf_cellSubject, State.cellTaken_hasWriteAccess, State.cellTaken_heldByOther, ha, hh, Bool.true_eq_false,
    Bool.false_eq_true, if_false]

theorem State.turnAside_of_room (h : s.dwq.length < 32) (o : Faulting) (e : DwqEntry) : s.turnAside o e = s.deferRequest e :=
  if_neg (Nat.not_le.mpr h)

theorem State.heldByOther_of_holder {k : Link} (h : s.holderOf c = some k) (hk : k ≠ l) : s.heldByOther l c = true := by
  simp [State.heldByOther, h, hk]

theorem State.deferRequest_eq (s : State) (e : DwqEntry) : s.deferRequest e = { s with
    dwq := s.dwq ++ [e]
    counters := { s.counters with
      deferrals := s.counters.deferrals + 1
      highWater := if s.counters.highWater < s.dwq.length + 1 then s.dwq.length + 1 else s.counters.highWater } } := by
  have hmax : max s.counters.highWater (s.dwq.length + 1) =
      if s.counters.highWater < s.dwq.length + 1 then s.dwq.length + 1 else s.counters.highWater := by
    split <;> omega
  rw [← hmax]; rfl

theorem exec_deferred {r : Request} {kind : DwqKind}
    (hr : (r = .write (cellSubject c) v ∧ kind = .write) ∨ (r = .commit (cellSubject c) v ∧ kind = .commit) ∨
      (r = .fetchAdd (cellSubject c) v ∧ kind = .fetchAdd))
    (ht : s.takesCell l tag r) (ha : s.hasWriteAccess l c = true) (hh : s.heldByOther l c = true) (hroom : s.dwq.length < 32) :
    exec (commandOf l tag r) s = .next ((s.cellTaken l).deferRequest ⟨l, tag, kind, c, v⟩) := by
  have hroom' : (s.cellTaken l).dwq.length < 32 := hroom
  rcases hr with ⟨rfl, rfl⟩ | ⟨rfl, rfl⟩ | ⟨rfl, rfl⟩ <;> refine (ht.exec rfl).trans ?_
  · simp only [State.takeWrite, cellOf_cellSubject, State.cellTaken_hasWriteAccess, State.cellTaken_heldByOther, ha, hh, Bool.true_eq_false,
      if_false, if_true, State.turnAside_of_room hroom']
  · simp only [State.takeCommit, cellOf_cellSubject, State.cellTaken_hasWriteAccess, State.cellTaken_heldByOther, ha, hh, Bool.true_eq_false,
      if_false, if_true, State.turnAside_of_room hroom']
  · simp only [State.takeFetchAdd, cellOf_cellSubject, State.cellTaken_hasWriteAccess, State.cellTaken_heldByOther, ha, hh, Bool.true_eq_false,
      if_false, if_true, State.turnAside_of_room hroom']

end Sys2Proof.Machine

namespace Sys2Proof.Proofs

open Sys2Proof.Machine

/-- Settles O26: the index is looked at first, then the class of the cell. -/
theorem cellChecksFaultInOrder : Obligations.CellChecksFaultInOrder := by
  refine ⟨fun s l c hatt => ⟨fun h => ?_, fun h => ?_, fun h ho => ?_⟩, fun s l tag r cell hr hc ht => exec_cellIndex_large hr hc ht,
    fun s l tag c v r hr ht ha => ?_⟩
  · simp [State.hasWriteAccess, h]
  · simp [State.hasWriteAccess, h]
  · obtain ⟨x, hx⟩ := exists_session_of_attached hatt
    simp [State.hasWriteAccess, ho, hx, State.hostId]
  · rw [exec_without_access hr ht ha]
    cases (s.cell c).access with
    | openAll => rw [cellClassDetail_openAll]
    | adminWrite => rw [cellClassDetail_adminWrite]
    | owned h => rw [cellClassDetail_owned]

/-- Settles O27: the access to the cell's value is good, meets poison, or finds a check failure. -/
theorem readReturnsTheCellOrFaults : Obligations.ReadReturnsTheCellOrFaults := by
  refine ⟨fun s l tag c ht hp hf => ?_, fun s l tag c ht => ⟨fun hp => ?_, fun hp hf => ?_⟩⟩
  · refine (ht.exec rfl).trans ?_
    simp only [State.takeRead, cellOf_cellSubject, State.accessCell_good (s := s.cellTaken l) hp hf]
    rfl
  · refine (ht.exec rfl).trans ?_
    simp only [State.takeRead, cellOf_cellSubject, State.accessCell_poisoned (s := s.cellTaken l) hp, readDefault_eq]
    rfl
  · obtain ⟨hcell, hother, hrest⟩ := (s.cellTaken l).detect_detected c
    refine ⟨(s.cellTaken l).detect c, (ht.exec rfl).trans ?_, hcell, hother, hrest⟩
    simp only [State.takeRead, cellOf_cellSubject, State.accessCell_failing (s := s.cellTaken l) hp hf, readDefault_eq, State.integrityFault, hcell]
    rfl

/-- Settles O28. -/
theorem writeStoresTheValue : Obligations.WriteStoresTheValue := by
  intro s l tag c v ht ha hh
  refine ⟨_, (exec_write_applied ht ha hh).trans (by rw [State.applyWrite_eq]; rfl), (State.modifyAnswered_modification ..).of_cellTaken, fun h => ?_,
    fun h he => ?_, rfl⟩
  · exact (State.modifyAnswered_holdsKept (s := s.cellTaken l) h ..).of_cellTaken
  · exact (State.modifyAnswered_holdEnds (s := s.cellTaken l) h he ..).of_cellTaken

/-- Settles O29: a bad value turns the FETCH_ADD into a fault, a good one is the base of the modification. -/
theorem fetchAddAddsTheDelta : Obligations.FetchAddAddsTheDelta := by
  refine ⟨fun s l tag c delta ht ha hh hbad => ?_, fun s l tag c delta ht ha hh hp hf => ?_⟩
  · obtain ⟨d, code, hmeets, he⟩ := State.applyFetchAdd_bad (s := s.cellTaken l) hbad l tag delta false none
    refine ⟨d, code, hmeets, (exec_fetchAdd_applied ht ha hh).trans ?_⟩
    rw [he, fetchAddDefault_eq.1]
    rfl
  · refine ⟨_, (exec_fetchAdd_applied ht ha hh).trans (by rw [State.applyFetchAdd_good (s := s.cellTaken l) hp hf]; rfl),
      (State.modifyAnswered_modification ..).of_cellTaken, fun h => ?_, fun h he => ?_, rfl⟩
    · exact (State.modifyAnswered_holdsKept (s := s.cellTaken l) h ..).of_cellTaken
    · exact (State.modifyAnswered_holdEnds (s := s.cellTaken l) h he ..).of_cellTaken

/-- Settles O30: the checks of R5, then the class is stored. -/
theorem setCellClassChangesOnlyTheClass : Obligations.SetCellClassChangesOnlyTheClass := by
  refine ⟨fun s l tag c ht => ?_, fun s l tag c cls owner ht ho => ?_⟩
  · refine (ht.exec rfl).trans ?_
    simp only [State.takeSetCellClass, cellOf_cellSubject, setCellClassDefault_eq, and_self, if_true]
    rfl
  · have hn : ¬(cls = .owned ∧ owner = 0) := fun h => ho h.1 h.2
    refine ⟨fun ha => ⟨((s.cellTaken l).setCell c { s.cell c with access := accessOf cls owner }).withReply l
        ⟨0x93, tag, .ok, accessByte (s.cell c).access :: le 2 (accessOwner (s.cell c).access)⟩, (ht.exec rfl).trans ?_,
      State.setCell_cell_same (s.cellTaken l) c _, fun k hk => State.setCell_cell_ne (s.cellTaken l) hk _, ?_⟩, fun ha => (ht.exec rfl).trans ?_⟩
    · have ha' : ¬(s.cellTaken l).admin ≠ some l := not_not.mpr ha
      simp only [State.takeSetCellClass, cellOf_cellSubject, if_neg hn, if_neg ha']
      rfl
    · cases (s.cell c).access <;> rfl
    · have ha' : (s.cellTaken l).admin ≠ some l := ha
      simp only [State.takeSetCellClass, cellOf_cellSubject, if_neg hn, if_pos ha', setCellClassDefault_eq]
      rfl

/-- Settles O31. -/
theorem heldCellDefersModifications : Obligations.HeldCellDefersModifications := by
  intro s l tag c v k r kind hr ht ha hk hkl hroom
  rw [exec_deferred hr ht ha (State.heldByOther_of_holder hk hkl) hroom, State.deferRequest_eq]
  rfl

end Sys2Proof.Proofs
end

section
/-! PROOF. Reservations, holds and watches: RESERVE (R22 to R25, R43), COMMIT (R26 to R30), the drain (R54 to R56), WATCH and UNWATCH (R62 to R67). -/

set_option Elab.async false

namespace Sys2Proof.Machine

variable {s t u : State} {l : Link} {tag : Tag} {c : CellIx} {v : Quad}

/-! ## RESERVE (R22 to R25) -/

/-- RESERVE arms the entry and answers from the state so armed. -/
theorem State.arm_eq (s : State) (l : Link) (tag : Tag) (c : CellIx) :
    s.arm l tag c = (s.armed l c).withReply l ⟨0x98, tag, .ok, le 8 (s.cell c).value ++ le 4 (s.cell c).version ++
      [marksByte (s.grants l c) ((s.consumeEntry l).heldByOther l c), countByte ((s.armed l c).entry l).failures]⟩ := by
  have hg : ((s.consumeEntry l).setEntry l { (s.consumeEntry l).entry l with reservation := .armed c (s.cell c).version }).earnsHold l c =
      s.grants l c := by simp only [State.grants, State.earnsHold, State.setEntry_entry_same]; rfl
  rw [← hg]; rfl

theorem exec_reserve_armed (ht : s.takesCell l tag (.reserve (cellSubject c))) (ha : s.hasWriteAccess l c = true)
    (hp : (s.cell c).poisoned = false) (hf : (s.cell c).checkFails = false) :
    exec (.reserve l tag (cellSubject c)) s = .next ((s.cellTaken l).arm l tag c) := by
  refine (ht.exec rfl).trans ?_
  simp only [State.takeReserve, cellOf_cellSubject, State.cellTaken_hasWriteAccess, ha, Bool.true_eq_false, if_false,
    State.accessCell_good (s := s.cellTaken l) hp hf]

theorem State.consumeEntry_heldByOther (h : ∀ k w, (s.entry l).reservation ≠ .held k w) : (s.consumeEntry l).heldByOther l c = s.heldByOther l c := by
  rw [State.consumeEntry_of_not_held h]; rfl

theorem State.grants_eq (s : State) (l : Link) (c : CellIx) :
    s.grants l c = (decide (s.config.threshold ≠ 0) && decide (s.config.threshold ≤ (s.entry l).failures) && !(s.consumeEntry l).heldByOther l c) := by
  have hf : ((s.consumeEntry l).entry l).failures = (s.entry l).failures := by rw [State.consumeEntry_reservation]
  have hc : (s.consumeEntry l).config = s.config := by rw [State.consumeEntry_frame]
  rw [State.grants, State.earnsHold, hf, hc]

/-- A RESERVE that earns no hold. -/
theorem State.arm_of_not_granted (h : s.grants l c = false) (tag : Tag) :
    s.arm l tag c = { s.withReply l ⟨0x98, tag, .ok, le 8 (s.cell c).value ++ le 4 (s.cell c).version ++
        [if (s.consumeEntry l).heldByOther l c then 2 else 0, BitVec.ofNat 8 (s.entry l).failures]⟩ with
      entries := setAt s.entries l ⟨.armed c (s.cell c).version, (s.entry l).failures⟩
      holds := (s.consumeEntry l).holds, drains := (s.consumeEntry l).drains } := by
  have hmark : ∀ b, marksByte false b = if b then 2 else 0 := by decide
  have harm : s.armed l c = { s with
      entries := setAt s.entries l ⟨.armed c (s.cell c).version, (s.entry l).failures⟩
      holds := (s.consumeEntry l).holds, drains := (s.consumeEntry l).drains } := by
    rw [State.armed_eq, h, if_neg Bool.false_ne_true]
    conv_lhs => rw [(s.consumeEntry_lost l).rest]
    simp [State.setEntry]
  rw [State.arm_eq, h, hmark, State.armed_entry, if_pos rfl, h, if_neg Bool.false_ne_true, harm]
  rfl

/-- A RESERVE that earns a hold, its session's entry owning none (R24, R43). -/
theorem State.arm_of_granted (h : s.grants l c = true) (hn : ∀ k w, (s.entry l).reservation ≠ .held k w) (hh : s.heldByOther l c = false) (tag : Tag) :
    s.arm l tag c = { s.withReply l ⟨0x98, tag, .ok, le 8 (s.cell c).value ++ le 4 (s.cell c).version ++ [1, 0]⟩ with
      entries := setAt s.entries l ⟨.held c (s.cell c).version, 0⟩
      holds := s.holds ++ [⟨c, l, .standing (s.clock + BitVec.ofNat 32 s.config.limit)⟩]
      counters := { s.counters with holdsGranted := s.counters.holdsGranted + 1 } } := by
  have harm : s.armed l c = { s with
      entries := setAt s.entries l ⟨.held c (s.cell c).version, 0⟩
      holds := s.holds ++ [⟨c, l, .standing (s.clock + BitVec.ofNat 32 s.config.limit)⟩]
      counters := { s.counters with holdsGranted := s.counters.holdsGranted + 1 } } := by
    rw [State.armed_eq, h, if_pos rfl, State.consumeEntry_of_not_held hn, State.setEntry_setEntry]
    rfl
  rw [State.arm_eq, h, State.consumeEntry_heldByOther hn, hh, State.armed_entry, if_pos rfl, h, if_pos rfl, harm]
  rfl

/-! ## COMMIT (R26 to R30), direct and deferred -/

theorem State.judgeCommit_of_matching {w : Word} (h : (s.entry l).reservation = .armed c w ∨ (s.entry l).reservation = .held c w) (tag : Tag)
    (v : Quad) (deferred : Bool) (resume : Option CellIx) :
    s.judgeCommit l tag c v deferred resume = s.commitArmed l tag c v deferred resume := by
  rcases h with h | h <;> simp [State.judgeCommit, h]

theorem State.judgeCommit_of_none (h : (s.entry l).reservation = .none) (tag : Tag) (v : Quad) (deferred : Bool) (resume : Option CellIx) :
    s.judgeCommit l tag c v deferred resume =
      s.raise ⟨l, tag, 0x19, commitDefault deferred⟩ ⟨.noReservation, cellSubject c, 0xFFFF0000⟩ resume := by
  simp only [State.judgeCommit, State.commitUnmatched, h]
  rfl

/-- With a reservation on another cell the COMMIT takes its STATE fault, whose detail is the entry's state and cell. -/
theorem State.judgeCommit_of_other {k : CellIx} {w : Word} (hk : k ≠ c) {r : Reservation}
    (hr : r = .armed k w ∨ r = .held k w ∨ r = .broken k) (h : (s.entry l).reservation = r) (tag : Tag) (v : Quad) (deferred : Bool)
    (resume : Option CellIx) :
    s.judgeCommit l tag c v deferred resume =
      s.raise ⟨l, tag, 0x19, commitDefault deferred⟩ ⟨.otherCell, cellSubject c, reservationDetail r⟩ resume := by
  rcases hr with rfl | rfl | rfl <;> simp [State.judgeCommit, h, hk, State.commitUnmatched]

theorem cellSubject_setWidth (k : CellIx) : (BitVec.ofNat 16 k.val).setWidth 32 = BitVec.ofNat 32 k.val := by
  apply BitVec.eq_of_toNat_eq
  simp
  omega

/-- The detail of OTHER_CELL (R121). -/
theorem reservationDetail_eq (k : CellIx) (w : Word) :
    reservationDetail (.armed k w) = (BitVec.ofNat 32 k.val <<< 16) + 1 ∧ reservationDetail (.held k w) = (BitVec.ofNat 32 k.val <<< 16) + 2 ∧
      reservationDetail (.broken k) = (BitVec.ofNat 32 k.val <<< 16) + 3 := by
  simp only [reservationDetail, reservationCell, cellSubject_setWidth]
  exact ⟨add_comm .., add_comm .., add_comm ..⟩

theorem State.commitArmed_bad (h : (s.cell c).poisoned = true ∨ (s.cell c).checkFails = true) (l : Link) (tag : Tag) (v : Quad) (deferred : Bool)
    (resume : Option CellIx) : ∃ d e code, MeetsBadValue s d c code ∧ EntryLost d e l ∧
      s.commitArmed l tag c v deferred resume =
        e.raise ⟨l, tag, 0x19, commitDefault deferred⟩ ⟨code, cellSubject c, (s.cell c).version⟩ resume := by
  obtain ⟨code, d, ha, hbad, hv⟩ := State.accessCell_bad h
  refine ⟨d, d.consumeEntry l, code, hbad, d.consumeEntry_lost l, ?_⟩
  simp only [State.commitArmed, ha, State.integrityFault, hv]

/-- What a COMMIT that succeeds does to the cell store and its neighbours: the modification, and its own entry cleared (R28). -/
def State.committed (s : State) (l : Link) (c : CellIx) (v : Quad) : State :=
  ((s.modify c v l (some l)).consumeEntry l).setEntry l {}

theorem State.committed_cells (s : State) (l : Link) (c : CellIx) (v : Quad) :
    (s.committed l c v).cells = (s.setCell c ((s.cell c).store v)).cells ∧
      (s.committed l c v).watches = s.watches.map (notifyWatch c l) ∧ (s.committed l c v).modifications = s.modifications + 1 := by
  have hframe : s.committed l c v = { s.modify c v l (some l) with
      entries := (s.committed l c v).entries, holds := (s.committed l c v).holds, drains := (s.committed l c v).drains } := by
    rw [State.committed, State.consumeEntry_frame]; rfl
  rw [hframe, State.modify_frame]
  exact ⟨rfl, rfl, rfl⟩

theorem State.committed_entry (s : State) (l k : Link) (c : CellIx) (v : Quad) :
    (s.committed l c v).entry k = if k = l then {} else breakEntry c (some l) k (s.entry k) := by
  rw [State.committed, State.entry_setEntry, State.consumeEntry_entry]
  by_cases hk : k = l
  · rw [if_pos hk, if_pos hk]
  · rw [if_neg hk, if_neg hk, if_neg hk, State.modify_entry]

theorem State.committed_modification (s : State) (l : Link) (c : CellIx) (v : Quad) : Modification s (s.committed l c v) c v l (some l) := by
  obtain ⟨hc, hw, hm⟩ := s.committed_cells l c v
  refine ⟨?_, fun k hk => ?_, fun k hk => ?_, fun k hk => ?_, ?_, hm⟩
  · rw [State.cell_congr (s := s.setCell c ((s.cell c).store v)) hc, State.setCell_cell_same]; rfl
  · rw [State.cell_congr (s := s.setCell c ((s.cell c).store v)) hc, State.setCell_cell_ne _ hk]
  · rw [State.committed_entry, if_neg fun h => hk (congrArg some h.symm), breakEntry_eq c hk]
  · rw [State.committed_entry, if_pos (Option.some.inj hk).symm]
  · rw [hw]; exact List.map_congr_left fun w _ => notifyWatch_eq c l w

/-- The committer's own modification ends no hold of its own. -/
theorem State.modify_committer_holds (h : s.holderOf c = none ∨ s.holderOf c = some l) (v : Quad) :
    (s.modify c v l (some l)).holds = s.holds ∧ (s.modify c v l (some l)).drains = s.drains := by
  rcases s.modify_holds_cases c v l (some l) with ⟨j, hj, hne, _⟩ | ⟨_, hh, hd⟩
  · rcases h with h | h
    · rw [h] at hj; cases hj
    · rw [h] at hj; exact absurd hj hne
  · exact ⟨hh, hd⟩

theorem State.modify_committer_entry (s : State) (c : CellIx) (v : Quad) (l : Link) : (s.modify c v l (some l)).entry l = s.entry l := by
  rw [State.modify_entry, breakEntry, if_pos rfl]

theorem State.committed_holdsKept (h : s.holderOf c = none) (hn : ∀ k w, (s.entry l).reservation ≠ .held k w) (v : Quad) :
    HoldsKept s (s.committed l c v) := by
  obtain ⟨hh, hd⟩ := State.modify_committer_holds (l := l) (.inl h) v
  have hlost := (s.modify c v l (some l)).consumeEntry_lost l
  obtain ⟨hrec, hdr⟩ := hlost.notHeld (by rw [State.modify_committer_entry]; exact hn)
  exact ⟨hrec.trans hh, hdr.trans hd⟩

theorem State.committed_holdEnds {w : Word} (h : s.holderOf c = some l) (he : (s.entry l).reservation = .held c w) (v : Quad) :
    HoldEnds s (s.committed l c v) l c := by
  obtain ⟨hh, hd⟩ := State.modify_committer_holds (l := l) (.inr h) v
  have hlost := (s.modify c v l (some l)).consumeEntry_lost l
  obtain ⟨hrec, hdr⟩ := hlost.held c w (by rw [State.modify_committer_entry]; exact he) (by rw [hh]; exact State.any_isHoldOf_of_holderOf h)
  rw [hh] at hrec
  rw [hd] at hdr
  exact ⟨hrec, hdr⟩

/-- The state that a COMMIT judged a success leaves. -/
def State.commitAnswered (s : State) (l : Link) (c : CellIx) (v : Quad) (r : Reply) : State :=
  { s.withReply l r with
    cells := (s.committed l c v).cells
    entries := (s.committed l c v).entries
    holds := (s.committed l c v).holds
    drains := (s.committed l c v).drains
    watches := (s.committed l c v).watches
    modifications := (s.committed l c v).modifications
    counters := { s.counters with commits := s.counters.commits + 1 } }

theorem State.commitSucceeds_eq (s : State) (l : Link) (tag : Tag) (c : CellIx) (v : Quad) (deferred : Bool) :
    s.commitSucceeds l tag c v deferred =
      s.commitAnswered l c v ⟨0x99, tag, .ok, le 4 ((s.cell c).version + 1) ++ [0, flagByte deferred]⟩ := by
  let m := s.modify c v l (some l)
  have hentry : { (m.consumeEntry l).entry l with failures := 0 } = ({} : Entry) := by rw [State.consumeEntry_reservation]
  have hset : (m.consumeEntry l).setEntry l { (m.consumeEntry l).entry l with failures := 0 } = s.committed l c v := by rw [hentry]; rfl
  have hversion : ((s.committed l c v).cell c).version = (s.cell c).version + 1 := by rw [(s.committed_modification l c v).stored]
  have hframe : s.committed l c v = { s with
      cells := (s.committed l c v).cells
      entries := (s.committed l c v).entries
      holds := (s.committed l c v).holds
      drains := (s.committed l c v).drains
      watches := (s.committed l c v).watches
      modifications := (s.committed l c v).modifications } := by
    rw [State.committed, State.consumeEntry_frame, State.modify_frame]; rfl
  have hsucc : s.commitSucceeds l tag c v deferred =
      State.withReply { s.committed l c v with counters := { (s.committed l c v).counters with commits := (s.committed l c v).counters.commits + 1 } } l
        ⟨0x99, tag, .ok, le 4 ((s.committed l c v).cell c).version ++ [0, flagByte deferred]⟩ := by rw [← hset]; rfl
  rw [hsucc, hversion]
  conv_lhs => rw [hframe]
  rfl

theorem State.commitArmed_good (hp : (s.cell c).poisoned = false) (hf : (s.cell c).checkFails = false) (l : Link) (tag : Tag) (v : Quad)
    (deferred : Bool) (resume : Option CellIx) :
    s.commitArmed l tag c v deferred resume =
      s.commitAnswered l c v ⟨0x99, tag, .ok, le 4 ((s.cell c).version + 1) ++ [0, flagByte deferred]⟩ := by
  simp only [State.commitArmed, State.accessCell_good hp hf, State.commitSucceeds_eq]

theorem State.commitAnswered_modification (s : State) (l : Link) (c : CellIx) (v : Quad) (r : Reply) :
    Modification s (s.commitAnswered l c v r) c v l (some l) := (s.committed_modification l c v).congr rfl rfl rfl rfl

theorem State.commitAnswered_holdsKept (h : s.holderOf c = none) (hn : ∀ k w, (s.entry l).reservation ≠ .held k w) (v : Quad) (r : Reply) :
    HoldsKept s (s.commitAnswered l c v r) := by
  obtain ⟨hr, hd⟩ := State.committed_holdsKept h hn v
  exact ⟨hr, hd⟩

theorem State.commitAnswered_holdEnds {w : Word} (h : s.holderOf c = some l) (he : (s.entry l).reservation = .held c w) (v : Quad) (r : Reply) :
    HoldEnds s (s.commitAnswered l c v r) l c := by
  obtain ⟨hr, hd⟩ := State.committed_holdEnds h he v
  exact ⟨hr, hd⟩

/-! ## The drain (R54 to R56) -/

theorem drainEntries_none (h : ∀ e ∈ s.dwq, e.cell ≠ c) (n : Nat) : drainEntries c n s = s := by
  cases n with
  | zero => rfl
  | succ n =>
    have hf : s.dwq.find? (fun e => decide (e.cell = c)) = none := by simpa [List.find?_eq_none] using h
    unfold drainEntries
    rw [hf]
    split <;> rfl

theorem drainEntries_of_posts (h : s.forwardPosts ≠ []) (n : Nat) : drainEntries c n s = s := by
  cases n with
  | zero => rfl
  | succ n =>
    unfold drainEntries
    rw [if_neg (by simpa using h)]

/-- The oldest entry for the cell is taken first. -/
theorem drainRest_cons {before after : List DwqEntry} {e : DwqEntry} (hp : s.forwardPosts = []) (hq : s.dwq = before ++ e :: after)
    (hb : ∀ b ∈ before, b.cell ≠ c) (he : e.cell = c) :
    s.drainRest c = drainEntries c (before ++ after).length (State.judgeDeferred { s with dwq := before ++ after } e) := by
  have hlen : s.dwq.length = (before ++ after).length + 1 := by rw [hq]; simp; omega
  have hfind : s.dwq.find? (fun e => decide (e.cell = c)) = some e := by
    rw [hq, List.find?_append, List.find?_eq_none.mpr (by simpa using hb)]
    simp [he]
  have herase : s.dwq.eraseP (fun e => decide (e.cell = c)) = before ++ after := by
    rw [hq, List.eraseP_append_right _ (by simpa using hb), List.eraseP_cons_of_pos (by simpa using he)]
  rw [State.drainRest, hlen, drainEntries, if_pos (by simp [hp]), hfind]
  dsimp only
  rw [herase]

/-! ## WATCH and UNWATCH (R65 to R67) -/

theorem State.watchOf_eq_none : s.watchOf l c = none ↔ ∀ w ∈ s.watches, ¬(w.link = l ∧ w.cell = c) := by
  simp [State.watchOf, List.find?_eq_none]

theorem State.watchOf_eq_some {w : Watch} (hw : w ∈ s.watches) (hl : w.link = l) (hc : w.cell = c)
    (hu : ∀ v ∈ s.watches, v.link = l → v.cell = c → v = w) : s.watchOf l c = some w := by
  cases h : s.watchOf l c with
  | none => exact absurd ⟨hl, hc⟩ (State.watchOf_eq_none.mp h w hw)
  | some v =>
    have hm := List.mem_of_find?_eq_some h
    have hp := List.find?_some h
    simp only [Bool.and_eq_true, decide_eq_true_eq] at hp
    rw [hu v hm hp.1 hp.2]

theorem State.takesInOrder.exec {r : Request} {g : State → State} (ht : s.takesInOrder l tag r)
    (hg : Machine.exec (commandOf l tag r) s = s.commandInOrder l tag r g) : Machine.exec (commandOf l tag r) s = .next (g (s.orderTaken l)) := by
  rw [hg, State.commandInOrder_of_takes ht]

end Sys2Proof.Machine

namespace Sys2Proof.Proofs

open Sys2Proof.Machine

/-- Settles O32: the entry is armed, and whether it earns a hold is read once its old hold has gone. -/
theorem reserveArmsOrEarnsAHold : Obligations.ReserveArmsOrEarnsAHold := by
  refine ⟨fun s l tag c ht ha hbad => ?_, fun s l tag c ht ha hp hf hn => ?_, fun s l tag c ht ha hp hf h0 hthr hh hn => ?_⟩
  · obtain ⟨code, d, hacc, hmeets, hv⟩ := State.accessCell_bad (s := s.cellTaken l) hbad
    refine ⟨d, code, hmeets, (ht.exec rfl).trans ?_⟩
    simp only [State.takeReserve, cellOf_cellSubject, State.cellTaken_hasWriteAccess, ha, Bool.true_eq_false, if_false, hacc, State.integrityFault, hv,
      reserveDefault_eq]
    rfl
  · have hg : (s.cellTaken l).grants l c = false := by
      rw [State.grants_eq]
      rcases hn with h | h | ⟨h, hr⟩
      · simp [show (s.cellTaken l).config.threshold = 0 from h]
      · simp [show ¬(s.cellTaken l).config.threshold ≤ ((s.cellTaken l).entry l).failures from Nat.not_le.mpr h]
      · rw [State.consumeEntry_heldByOther (s := s.cellTaken l) hr, State.cellTaken_heldByOther, h, Bool.not_true, Bool.and_false]
    have hlost := (s.cellTaken l).consumeEntry_lost l
    refine ⟨_, (exec_reserve_armed ht ha hp hf).trans (by rw [State.arm_of_not_granted hg]), fun hr => ?_, fun k w hr hs => ?_, rfl⟩
    · obtain ⟨hrec, hdr⟩ := hlost.notHeld hr
      exact ⟨hrec, hdr⟩
    · obtain ⟨hrec, hdr⟩ := hlost.held k w hr hs
      exact ⟨hrec, hdr⟩
  · have hg : (s.cellTaken l).grants l c = true := by
      rw [State.grants_eq, State.consumeEntry_heldByOther (s := s.cellTaken l) hn, State.cellTaken_heldByOther, hh]
      simp [show (s.cellTaken l).config.threshold ≠ 0 from h0, show (s.cellTaken l).config.threshold ≤ ((s.cellTaken l).entry l).failures from hthr]
    rw [exec_reserve_armed ht ha hp hf, State.arm_of_granted (s := s.cellTaken l) hg hn hh]
    rfl

/-- Settles O33: the entry decides whether the COMMIT is judged at all, and the value then whether it succeeds. -/
theorem commitIsJudgedByTheEntry : Obligations.CommitIsJudgedByTheEntry := by
  refine ⟨fun s l tag c v w ht ha hh hbad hr => ?_, fun s l tag c v w ht ha hh hp hf hr => ?_, fun s l tag c v ht ha hh => ?_⟩
  · obtain ⟨d, e, code, hmeets, hlost, he⟩ := State.commitArmed_bad (s := s.cellTaken l) hbad l tag v false none
    refine ⟨d, e, code, hmeets, hlost, (exec_commit_judged ht ha hh).trans ?_⟩
    rw [State.judgeCommit_of_matching (s := s.cellTaken l) hr, he, commitDefault_eq.1]
    rfl
  · refine ⟨_, (exec_commit_judged ht ha hh).trans ?_, ((s.cellTaken l).commitAnswered_modification l c v _).of_cellTaken, fun harm hn => ?_,
      fun hheld hn => ?_, rfl⟩
    · rw [State.judgeCommit_of_matching (s := s.cellTaken l) hr, State.commitArmed_good (s := s.cellTaken l) hp hf]
      rfl
    · exact (State.commitAnswered_holdsKept (s := s.cellTaken l) hn (fun k x h => nomatch harm.symm.trans h) v _).of_cellTaken
    · exact (State.commitAnswered_holdEnds (s := s.cellTaken l) hn hheld v _).of_cellTaken
  · have hexec := exec_commit_judged ht ha hh
    refine ⟨fun hr => ?_, fun k w hk hr => ?_, fun k w hk hr => ?_, fun k hk hr => ?_⟩ <;> refine hexec.trans ?_
    · rw [State.judgeCommit_of_none (s := s.cellTaken l) hr, commitDefault_eq.1]; rfl
    · rw [State.judgeCommit_of_other (s := s.cellTaken l) (w := w) hk (.inl rfl) hr, (reservationDetail_eq k w).1, commitDefault_eq.1]; rfl
    · rw [State.judgeCommit_of_other (s := s.cellTaken l) (w := w) hk (.inr (.inl rfl)) hr, (reservationDetail_eq k w).2.1, commitDefault_eq.1]; rfl
    · rw [State.judgeCommit_of_other (s := s.cellTaken l) (w := 0) hk (.inr (.inr rfl)) hr, (reservationDetail_eq k 0).2.2, commitDefault_eq.1]; rfl

/-- Settles O36: the drain's own steps, and each kind of entry judged as the direct request is, with the deferred mark. -/
theorem drainJudgesEntriesInOrder : Obligations.DrainJudgesEntriesInOrder := by
  refine ⟨fun s c rest hs hr hd => ?_, fun s c hr hp hd => ?_, fun s c h => drainEntries_none h _, fun s c before after e hp hq hb he => ?_, fun s e =>
    ⟨fun hk ha hn => ?_, fun hk ha hn hp hf => ?_, fun hk ha hbad => ?_, fun hk ha => ?_, fun ha => ?_⟩⟩
  · show execDrain s = _
    simp [execDrain, State.resetStands, hr, State.settled_draining hs, State.settle_of_settled hs, hd, State.takeDrain]
  · show execDrain s = _
    simp [execDrain, State.resetStands, hr, hp, hd, State.resumeDrain]
  · have hj := State.judgeDeferred_judged { s with dwq := before ++ after } e
    intro t
    rw [drainRest_cons hp hq hb he]
    split
    · rw [State.drainRest, hj.dwq]
    · next hposts => exact drainEntries_of_posts hposts _
  · have h : s.judgeDeferred e = s.applyWrite e.link e.tag e.cell e.operand true := by simp [State.judgeDeferred, ha, hk]
    have hkept := State.modifyAnswered_holdsKept hn e.link e.operand ⟨0x91, e.tag, .ok, le 4 ((s.cell e.cell).version + 1) ++ [1]⟩
    refine ⟨_, h.trans (State.applyWrite_eq ..), State.modifyAnswered_modification .., hkept, ?_⟩
    have hrec : (s.modify e.cell e.operand e.link none).holds = s.holds := hkept.records
    have hdr : (s.modify e.cell e.operand e.link none).drains = s.drains := hkept.drains
    rw [State.modifyAnswered, hrec, hdr]
    rfl
  · have h : s.judgeDeferred e = s.applyFetchAdd e.link e.tag e.cell e.operand true (some e.cell) := by simp [State.judgeDeferred, ha, hk]
    have hkept := State.modifyAnswered_holdsKept hn e.link ((s.cell e.cell).value + e.operand)
      ⟨0x92, e.tag, .ok, le 8 (s.cell e.cell).value ++ le 4 ((s.cell e.cell).version + 1) ++ [1]⟩
    refine ⟨_, h.trans (State.applyFetchAdd_good hp hf ..), State.modifyAnswered_modification .., hkept, ?_⟩
    have hrec : (s.modify e.cell ((s.cell e.cell).value + e.operand) e.link none).holds = s.holds := hkept.records
    have hdr : (s.modify e.cell ((s.cell e.cell).value + e.operand) e.link none).drains = s.drains := hkept.drains
    rw [State.modifyAnswered, hrec, hdr]
    rfl
  · have h : s.judgeDeferred e = s.applyFetchAdd e.link e.tag e.cell e.operand true (some e.cell) := by simp [State.judgeDeferred, ha, hk]
    obtain ⟨d, code, hmeets, he⟩ := State.applyFetchAdd_bad hbad e.link e.tag e.operand true (some e.cell)
    exact ⟨d, code, hmeets, by rw [h, he, fetchAddDefault_eq.2]⟩
  · have h : s.judgeDeferred e = s.judgeCommit e.link e.tag e.cell e.operand true (some e.cell) := by simp [State.judgeDeferred, ha, hk]
    refine ⟨h, fun w hr hn hp hf => ?_, fun w hr hbad => ?_, fun hr => ?_, fun k hk => ⟨fun w hr => ?_, fun w hr => ?_, fun hr => ?_⟩⟩
    · have hkept := State.commitAnswered_holdsKept hn (fun k x h => nomatch hr.symm.trans h) e.operand
        ⟨0x99, e.tag, .ok, le 4 ((s.cell e.cell).version + 1) ++ [0, 1]⟩
      refine ⟨_, h.trans ((State.judgeCommit_of_matching (.inl hr) ..).trans (State.commitArmed_good hp hf ..)), State.commitAnswered_modification ..,
        hkept, ?_⟩
      have hrec : (s.committed e.link e.cell e.operand).holds = s.holds := hkept.records
      have hdr : (s.committed e.link e.cell e.operand).drains = s.drains := hkept.drains
      rw [State.commitAnswered, hrec, hdr]
      rfl
    · obtain ⟨d, t, code, hmeets, hlost, he⟩ := State.commitArmed_bad hbad e.link e.tag e.operand true (some e.cell)
      refine ⟨d, t, code, hmeets, hlost, ?_⟩
      rw [h, State.judgeCommit_of_matching (.inl hr), he, commitDefault_eq.2]
    · rw [h, State.judgeCommit_of_none hr, commitDefault_eq.2]
    · rw [h, State.judgeCommit_of_other (w := w) hk (.inl rfl) hr, (reservationDetail_eq k w).1, commitDefault_eq.2]
    · rw [h, State.judgeCommit_of_other (w := w) hk (.inr (.inl rfl)) hr, (reservationDetail_eq k w).2.1, commitDefault_eq.2]
    · rw [h, State.judgeCommit_of_other (w := 0) hk (.inr (.inr rfl)) hr, (reservationDetail_eq k 0).2.2, commitDefault_eq.2]
  · have h : s.judgeDeferred e = s.raise ⟨e.link, e.tag, dwqKindByte e.kind, dwqDefault e.kind⟩ (s.accessFault e.cell) (some e.cell) := by
      simp [State.judgeDeferred, ha]
    rw [h]
    cases e.kind with
    | write => simp only [dwqDefault, writeDefault_eq.2]; rfl
    | fetchAdd => simp only [dwqDefault, fetchAddDefault_eq.2]; rfl
    | commit => simp only [dwqDefault, commitDefault_eq.2]; rfl

/-- Settles O38: the checks in their order, and the record added or removed. -/
theorem watchAddsAndUnwatchRemoves : Obligations.WatchAddsAndUnwatchRemoves := by
  refine ⟨fun s l tag c ht => ⟨fun hw => ?_, fun hw hn => ?_, fun hw hn hbad => ?_⟩, fun s l tag cell ht hc => ?_, fun s l tag c ht hw hn hp hf => ?_,
    fun s l tag c ht => ⟨fun w hw hl hc hu => ?_, fun hw => ?_⟩⟩
  · have hsome : ((s.cellTaken l).watchOf l c).isSome = true := by
      rw [Option.isSome_iff_ne_none]
      exact fun h => hw (State.watchOf_eq_none (s := s.cellTaken l).mp h)
    refine (ht.exec rfl).trans ?_
    simp only [State.takeWatch, cellOf_cellSubject, hsome, if_true, watchDefault_eq]
    rfl
  · have hnone : (s.cellTaken l).watchOf l c = none := State.watchOf_eq_none.mpr hw
    refine (ht.exec rfl).trans ?_
    simp only [State.takeWatch, cellOf_cellSubject, hnone, Option.isSome_none, Bool.false_eq_true, if_false, watchDefault_eq]
    rw [if_pos (show Config.watchLimit ≤ (s.cellTaken l).watchCount l from hn)]
    rfl
  · have hnone : (s.cellTaken l).watchOf l c = none := State.watchOf_eq_none.mpr hw
    obtain ⟨code, d, hacc, hmeets, hv⟩ := State.accessCell_bad (s := s.cellTaken l) hbad
    refine ⟨d, code, hmeets, (ht.exec rfl).trans ?_⟩
    simp only [State.takeWatch, cellOf_cellSubject, hnone, Option.isSome_none, Bool.false_eq_true, if_false, watchDefault_eq, hacc, State.integrityFault, hv]
    rw [if_neg (show ¬Config.watchLimit ≤ (s.cellTaken l).watchCount l from Nat.not_le.mpr hn)]
    rfl
  · refine (ht.exec rfl).trans ?_
    simp only [State.takeUnwatch, cellOf_of_large hc]
    rfl
  · have hnone : (s.cellTaken l).watchOf l c = none := State.watchOf_eq_none.mpr hw
    refine (ht.exec rfl).trans ?_
    simp only [State.takeWatch, cellOf_cellSubject, hnone, Option.isSome_none, Bool.false_eq_true, if_false,
      State.accessCell_good (s := s.cellTaken l) hp hf]
    rw [if_neg (show ¬Config.watchLimit ≤ (s.cellTaken l).watchCount l from Nat.not_le.mpr hn)]
    rfl
  · have hsome : (s.orderTaken l).watchOf l c = some w := State.watchOf_eq_some (s := s.orderTaken l) hw hl hc hu
    have hfilter : (s.watches.filter fun w => !(decide (w.link = l) && decide (w.cell = c))) =
        s.watches.filter fun v => decide (¬(v.link = l ∧ v.cell = c)) := by
      congr 1; funext v; by_cases h1 : v.link = l <;> by_cases h2 : v.cell = c <;> simp [h1, h2]
    refine (ht.exec rfl).trans ?_
    rw [← hfilter]
    simp only [State.takeUnwatch, cellOf_cellSubject, hsome]
    cases w.pending <;> rfl
  · have hnone : (s.orderTaken l).watchOf l c = none := State.watchOf_eq_none.mpr hw
    refine (ht.exec rfl).trans ?_
    simp only [State.takeUnwatch, cellOf_cellSubject, hnone]
    rfl

end Sys2Proof.Proofs
end

section
/-! PROOF. The queue requests (R75 to R97): their checks in order, creating and destroying, binding, posting, taking and peeking; the forward post and the
expiry of a waiting take. -/

set_option Elab.async false

namespace Sys2Proof.Machine

variable {s t u : State} {l : Link} {tag : Tag} {q : QueueIx} {d : Queue} {queue : Byte}

theorem State.takesQueue.exec {r : Request} {g : State → State} (ht : s.takesQueue l tag r)
    (hg : Machine.exec (commandOf l tag r) s = s.commandQueue l tag r g) : Machine.exec (commandOf l tag r) s = .next (g (s.queueTaken l)) := by
  rw [hg, State.commandQueue_of_takes ht]

theorem exists_queueField (h : queue.toNat ≤ 31) : ∃ q : QueueIx, queue = queueField q := ⟨⟨queue.toNat, by omega⟩, by simp [queueField]⟩

theorem queueSubject_queueField (q : QueueIx) : queueSubject (queueField q) = BitVec.ofNat 16 q.val := queueField_setWidth q

/-- The detail of QUEUE_EXISTS (R121). -/
theorem queueStateByte_some (d : Queue) : (queueStateByte (some d)).setWidth 32 = (if d.owner = none then 1 else 2 : Word) := by
  cases h : d.owner <;> simp [queueStateByte, h]

/-- The detail of NOT_OWNER and QUEUE_BOUND (R121). -/
theorem linkByte_some_setWidth (k : Link) : (linkByte (some k)).setWidth 32 = BitVec.ofNat 32 k.val := by
  have := k.isLt
  apply BitVec.eq_of_toNat_eq
  simp [linkByte]
  omega

theorem peekDefault_eq : peekDefault = List.replicate 9 0 := by decide

theorem createDefault_eq : le 2 (0 : Half) = [0, 0] := by decide

/-! ## What the checks shared by UNBIND, TAKE and PEEK find -/

theorem State.ownedQueue_large (h : 31 < queue.toNat) : s.ownedQueue l queue = .error (queueRangeFault queue) := by
  simp only [State.ownedQueue, queueOf_of_large h]

theorem State.ownedQueue_absent (h : s.queue q = none) : s.ownedQueue l (queueField q) = .error (queueAbsentFault (queueField q)) := by
  simp only [State.ownedQueue, queueOf_queueField, h]

theorem State.ownedQueue_notOwner (h : s.queue q = some d) (ho : d.owner ≠ some l) :
    s.ownedQueue l (queueField q) = .error (notOwnerFault (queueField q) d) := by
  simp only [State.ownedQueue, queueOf_queueField, h, if_neg ho]

theorem State.ownedQueue_owner (h : s.queue q = some d) (ho : d.owner = some l) : s.ownedQueue l (queueField q) = .ok (q, d) := by
  simp only [State.ownedQueue, queueOf_queueField, h, if_pos ho]

/-- A check that fails is the request's fault, whichever of the three requests it is. -/
theorem exec_ownedQueue_error {wait : Half} {r : Request} {f : HubFault} (hr : r = .unbind queue ∨ r = .take queue wait ∨ r = .peek queue)
    (ht : s.takesQueue l tag r) (hf : s.ownedQueue l queue = .error f) :
    exec (commandOf l tag r) s = .next ((s.queueTaken l).raiseInQueue (faulting s l tag r) f) := by
  have hf' : (s.queueTaken l).ownedQueue l queue = .error f := hf
  rcases hr with rfl | rfl | rfl <;> refine (ht.exec rfl).trans ?_
  · simp only [State.takeUnbind, hf']; rfl
  · simp only [State.takeTake, hf']; rfl
  · simp only [State.takePeek, hf', peekDefault_eq]; rfl

/-- A queue index above 31 is looked at first, whatever the request. -/
theorem exec_queueIndex_large {r : Request} (hr : queueIndexOf r = some queue) (h : 31 < queue.toNat) (ht : s.takesQueue l tag r) :
    exec (commandOf l tag r) s = .next ((s.queueTaken l).raiseInQueue (faulting s l tag r) (queueRangeFault queue)) := by
  have hnone := queueOf_of_large h
  have howned : s.ownedQueue l queue = .error (queueRangeFault queue) := State.ownedQueue_large h
  cases r <;> cases hr
  case createQueue => refine (ht.exec rfl).trans ?_; simp only [State.takeCreate, hnone, createDefault_eq]; rfl
  case destroyQueue => refine (ht.exec rfl).trans ?_; simp only [State.takeDestroy, hnone]; rfl
  case bind => refine (ht.exec rfl).trans ?_; simp only [State.takeBind, hnone]; rfl
  case unbind => exact exec_ownedQueue_error (wait := 0) (.inl rfl) ht howned
  case post => refine (ht.exec rfl).trans ?_; simp only [State.takePost, hnone]; rfl
  case take => exact exec_ownedQueue_error (.inr (.inl rfl)) ht howned
  case peek => exact exec_ownedQueue_error (wait := 0) (.inr (.inr rfl)) ht howned
  case queryQueue => refine (ht.exec rfl).trans ?_; simp only [State.takeQueryQueue, hnone]; rfl

/-! ## Replies and reports by link -/

theorem State.withReply_link (s : State) (l k : Link) (r : Reply) : (s.withReply l r).link k = if k = l then (s.link l).answered r else s.link k :=
  getAt_setAt ..

theorem State.updReports_link (s : State) (l k : Link) (f : PendingReports → PendingReports) :
    (s.updReports l f).link k = if k = l then { s.link l with reports := f (s.link l).reports } else s.link k := getAt_setAt ..

/-- A link unit that may have had a waiting take ended with a reply. -/
def Queue.takeEnded (d : Queue) (status : Status) (k : Link) (u : LinkUnit) : LinkUnit :=
  match d.waitingTake with
  | some w => if w.link = k then u.answered ⟨0xA5, w.tag, status, []⟩ else u
  | none => u

theorem State.endWaitingTake_link (s : State) (d : Queue) (status : Status) (k : Link) :
    (s.endWaitingTake d status []).link k = d.takeEnded status k (s.link k) := by
  unfold State.endWaitingTake Queue.takeEnded
  cases d.waitingTake with
  | none => rfl
  | some w =>
    dsimp only
    rw [State.answer_eq_withReply, State.withReply_link]
    by_cases hk : k = w.link
    · subst hk; rw [if_pos rfl, if_pos rfl]; rfl
    · rw [if_neg hk, if_neg fun h => hk h.symm]

theorem State.endWaitingTake_frame (s : State) (d : Queue) (status : Status) (fields : List Byte) :
    s.endWaitingTake d status fields = { s with links := (s.endWaitingTake d status fields).links } := by
  unfold State.endWaitingTake; cases d.waitingTake <;> rfl

theorem State.withdrawOwned_frame (s : State) (q : QueueIx) (d : Queue) : s.withdrawOwned q d = { s with links := (s.withdrawOwned q d).links } := by
  unfold State.withdrawOwned; cases d.owner <;> rfl

theorem State.withdrawOwned_link (s : State) (q : QueueIx) (d : Queue) (k : Link) :
    (s.withdrawOwned q d).link k = if d.owner = some k then
      { s.link k with reports := { (s.link k).reports with arrivals := (s.link k).reports.arrivals.filter fun j => decide (j ≠ q) } } else s.link k := by
  unfold State.withdrawOwned
  cases h : d.owner with
  | none => rfl
  | some j =>
    dsimp only
    rw [State.withdrawArrival, State.updReports_link]
    by_cases hk : k = j
    · subst hk; rw [if_pos rfl, if_pos rfl]
    · rw [if_neg hk, if_neg fun h => hk (Option.some.inj h).symm]

/-- The other queues are as they were when one descriptor was written. -/
theorem State.setQueue_frame (s : State) (q : QueueIx) (d : Queue) : s.setQueue q d = { s with queues := (s.setQueue q d).queues } := rfl

theorem State.heldAfter_of_queue (h : s.queue q = some d) : s.heldAfter q = countByte d.messages.length := by rw [State.heldAfter, h]; rfl

theorem State.heldByte_of_queue (h : s.queue q = some d) : s.heldByte (queueField q) = countByte d.messages.length := by
  simp only [State.heldByte, queueOf_queueField, h]; rfl

/-! ## The head of a queue (R77) -/

/-- The head, and what is left without it: the oldest urgent message, or the oldest message when none is urgent. -/
theorem headMessage_eq {ms before after : List Message} {x : Message} (h : ms = before ++ x :: after)
    (hx : (x.urgent = true ∧ ∀ y ∈ before, y.urgent = false) ∨ (before = [] ∧ ∀ y ∈ ms, y.urgent = false)) :
    headMessage ms = some x ∧ dropHead ms = before ++ after := by
  subst h
  rcases hx with ⟨hx, hb⟩ | ⟨rfl, ha⟩
  · have hnot : ∀ y ∈ before, ¬y.urgent = true := fun y hy => by simp [hb y hy]
    have hfind : (before ++ x :: after).find? Message.urgent = some x := by
      rw [List.find?_append, List.find?_eq_none.mpr hnot]
      simp [hx]
    have hany : (before ++ x :: after).any Message.urgent = true := by simp [hx]
    refine ⟨by rw [headMessage, hfind], ?_⟩
    rw [dropHead, hany, if_pos rfl, List.eraseP_append_right _ hnot, List.eraseP_cons_of_pos hx]
  · have hnot : ∀ y ∈ [] ++ x :: after, ¬y.urgent = true := fun y hy => by simp [ha y hy]
    have hfind : ([] ++ x :: after).find? Message.urgent = none := List.find?_eq_none.mpr hnot
    have hany : ([] ++ x :: after).any Message.urgent = false := by rw [List.any_eq_false]; exact hnot
    refine ⟨by rw [headMessage, hfind]; rfl, ?_⟩
    rw [dropHead, hany]
    rfl

end Sys2Proof.Machine

namespace Sys2Proof.Proofs

open Sys2Proof.Machine

/-- Settles O39. -/
theorem createAndDestroyQueue : Obligations.CreateAndDestroyQueue := by
  refine ⟨fun s l tag q label capacity overflow mask intended notify ht h1 h64 => ?_, fun s l tag q d ht hq => ⟨fun ha => ?_, fun ha => ?_⟩⟩
  · have hcap : ¬(capacity = 0 ∨ Config.capacityMax < capacity.toNat) := by
      rintro (rfl | h)
      · exact absurd h1 (by decide)
      · exact absurd h (Nat.not_lt.mpr h64)
    refine ⟨fun ha hq => ?_, fun ha => (ht.exec rfl).trans ?_⟩
    · have ha' : ¬(s.queueTaken l).admin ≠ some l := not_not.mpr ha
      have hq' : (s.queueTaken l).queue q = none := hq
      let e : Queue := ⟨label, capacity.toNat, overflow, mask, if intended = 0 then none else some intended, notify, none, [], none, 0⟩
      have hused : ((s.queueTaken l).setQueue q e).slotsUsed = s.slotsUsed := State.setQueue_slotsUsed_of_none (s := s.queueTaken l) e hq
      refine ⟨((s.queueTaken l).setQueue q e).withReply l ⟨0xA0, tag, .ok, le 2 (BitVec.ofNat 16 (256 - s.slotsUsed) : Half)⟩,
        (ht.exec rfl).trans ?_, (s.queueTaken l).setQueue_queue_same q e, fun k hk => (s.queueTaken l).setQueue_queue_ne hk e, hused, rfl⟩
      simp only [State.takeCreate, queueOf_queueField, if_neg hcap, if_neg ha', hq', State.slotsFree]
      rw [← hused]
      rfl
    · have ha' : (s.queueTaken l).admin ≠ some l := ha
      simp only [State.takeCreate, queueOf_queueField, if_neg hcap, if_pos ha', createDefault_eq, queueAdminFault, queueSubject_queueField]
  · have ha' : ¬(s.queueTaken l).admin ≠ some l := not_not.mpr ha
    have hq' : (s.queueTaken l).queue q = some d := hq
    let u := ((s.queueTaken l).endWaitingTake d .gone []).withdrawOwned q d
    have hu : u = { s.queueTaken l with links := u.links } := by
      rw [show u = _ from State.withdrawOwned_frame .., State.endWaitingTake_frame]
    have hfaults : u.faults = s.faults := by rw [hu]; rfl
    have hqueues : u.queues = s.queues := by rw [hu]; rfl
    refine ⟨((s.queueTaken l).destroyQueue q d).withReply l ⟨0xA1, tag, .ok, [BitVec.ofNat 8 d.messages.length]⟩, (ht.exec rfl).trans ?_,
      (u.removeQueue_queue q q).trans (if_pos rfl), fun k hk => ?_, fun k => ?_, fun k => ?_, ?_⟩
    · simp only [State.takeDestroy, queueOf_queueField, if_neg ha', hq']
      rfl
    · exact (u.removeQueue_queue q k).trans ((if_neg hk).trans (State.queue_congr (s := s) hqueues k))
    · have hmap : (((s.queueTaken l).destroyQueue q d).withReply l ⟨0xA1, tag, .ok, [BitVec.ofNat 8 d.messages.length]⟩).faults =
          mapLinks (clearDesignation q) s.faults := congrArg (mapLinks (clearDesignation q)) hfaults
      rw [State.faultRecord, hmap, getAt_mapLinks]
      rfl
    · have hlink : ((s.queueTaken l).destroyQueue q d).link k = u.link k := rfl
      have hul : u.link k = if d.owner = some k then
          { d.takeEnded .gone k (s.link k) with reports := { (d.takeEnded .gone k (s.link k)).reports with
            arrivals := (d.takeEnded .gone k (s.link k)).reports.arrivals.filter fun j => decide (j ≠ q) } }
          else d.takeEnded .gone k (s.link k) := by
        rw [State.withdrawOwned_link, State.endWaitingTake_link]
        rfl
      rw [State.withReply_link]
      by_cases hk : k = l
      · subst hk; rw [if_pos rfl, hlink, hul]; exact (if_pos rfl).symm
      · rw [if_neg hk, hlink, hul]; exact (if_neg hk).symm
    · have hd : (s.queueTaken l).destroyQueue q d = { u.removeQueue q with faults := mapLinks (clearDesignation q) u.faults } := rfl
      rw [hd, hu]
      rfl
  · have ha' : (s.queueTaken l).admin ≠ some l := ha
    refine (ht.exec rfl).trans ?_
    simp only [State.takeDestroy, queueOf_queueField, if_pos ha', queueAdminFault, queueSubject_queueField]
    rfl

/-- Settles O40. -/
theorem bindAndUnbindQueue : Obligations.BindAndUnbindQueue := by
  refine ⟨fun s l tag q d ht hq => ⟨fun ho hi => ?_, fun k ho => ?_, fun h ho hi hx => ?_⟩, fun s l tag q d ht hq ho => ?_⟩
  · have hq' : (s.queueTaken l).queue q = some d := hq
    have hmay : (s.queueTaken l).mayBind l d = true := by
      rcases hi with hi | ⟨x, hx, hi⟩
      · simp [State.mayBind, hi]
      · simp [State.mayBind, hi, show (s.queueTaken l).session l = some x from hx]
    let b := (s.queueTaken l).setQueue q { d with owner := some l }
    have hset : (if d.notify && !d.messages.isEmpty then b.pendArrival l q else b) = { b with
        links := setAt s.links l { s.link l with reports := { (s.link l).reports with
          arrivals := if d.notify && !d.messages.isEmpty then insertIx q (s.link l).reports.arrivals else (s.link l).reports.arrivals } } } := by
      split
      · rfl
      · have hl : setAt s.links l (s.link l) = s.links := setAt_getAt ..
        rw [hl]
        rfl
    refine ⟨State.withReply (if d.notify && !d.messages.isEmpty then b.pendArrival l q else b) l
      ⟨0xA2, tag, .ok, [BitVec.ofNat 8 d.messages.length, BitVec.ofNat 8 (d.messages.filter Message.urgent).length]⟩, (ht.exec rfl).trans ?_, ?_, fun k hk => ?_, ?_⟩
    · simp only [State.takeBind, queueOf_queueField, hq', ho, hmay, if_true]
      rfl
    · rw [hset]; exact State.setQueue_queue_same ..
    · rw [hset]; exact State.setQueue_queue_ne (s.queueTaken l) hk _
    · rw [hset]
      simp only [State.withReply, State.link, getAt_setAt_same, setAt_setAt]
      rfl
  · have hq' : (s.queueTaken l).queue q = some d := hq
    refine (ht.exec rfl).trans ?_
    simp only [State.takeBind, queueOf_queueField, hq', ho, queueSubject_queueField, linkByte_some_setWidth]
    rfl
  · have hq' : (s.queueTaken l).queue q = some d := hq
    have hmay : (s.queueTaken l).mayBind l d = false := by
      have hs : (s.queueTaken l).session l = s.session l := rfl
      cases hx' : s.session l with
      | none => simp [State.mayBind, hi, hs, hx']
      | some x => simp [State.mayBind, hi, hs, hx', hx x hx']
    refine (ht.exec rfl).trans ?_
    simp only [State.takeBind, queueOf_queueField, hq', ho, hmay, Bool.false_eq_true, if_false, hi, queueSubject_queueField]
    rfl
  · have howned : (s.queueTaken l).ownedQueue l (queueField q) = .ok (q, d) := State.ownedQueue_owner (s := s.queueTaken l) hq ho
    let u := ((s.queueTaken l).endWaitingTake d .cancelled []).withdrawOwned q d
    have hu : u = { s.queueTaken l with links := u.links } := by
      rw [show u = _ from State.withdrawOwned_frame .., State.endWaitingTake_frame]
    have hqueues : u.queues = s.queues := by rw [hu]; rfl
    have hul : ∀ k, u.link k = if k = l then
        { d.takeEnded .cancelled k (s.link k) with reports := { (d.takeEnded .cancelled k (s.link k)).reports with
          arrivals := (d.takeEnded .cancelled k (s.link k)).reports.arrivals.filter fun j => decide (j ≠ q) } }
        else d.takeEnded .cancelled k (s.link k) := fun k => by
      rw [State.withdrawOwned_link, State.endWaitingTake_link, ho]
      by_cases hk : k = l
      · subst hk; rw [if_pos rfl, if_pos rfl]; rfl
      · rw [if_neg fun h => hk (Option.some.inj h).symm, if_neg hk]; rfl
    refine ⟨(u.setQueue q { d with owner := none, waitingTake := none }).withReply l ⟨0xA3, tag, .ok, [BitVec.ofNat 8 d.messages.length]⟩,
      (ht.exec rfl).trans ?_, State.setQueue_queue_same .., fun k hk => ?_, fun k => ?_, ?_⟩
    · simp only [State.takeUnbind, howned]
      rfl
    · exact (State.setQueue_queue_ne u hk _).trans (State.queue_congr (s := s) hqueues k)
    · rw [State.withReply_link]
      by_cases hk : k = l
      · subst hk
        rw [if_pos rfl, show (u.setQueue q { d with owner := none, waitingTake := none }).link k = u.link k from rfl, hul, if_pos rfl]
        exact (if_pos rfl).symm
      · rw [if_neg hk, show (u.setQueue q { d with owner := none, waitingTake := none }).link k = u.link k from rfl, hul, if_neg hk]
        exact (if_neg hk).symm
    · rw [hu]
      rfl

end Sys2Proof.Proofs
end

section
/-! PROOF. The statements about posting, taking and peeking, the checks of the queue requests, the forward post and the expiry of a waiting take. -/

set_option Elab.async false

namespace Sys2Proof.Machine

variable {s t u : State} {l : Link} {tag : Tag} {q : QueueIx} {d : Queue}

/-! ## POST (R85, R86) -/

/-- What a POST that the mask admits comes to, when its message is handed over or stored. -/
theorem exec_post_handed {urgent : Bool} {payload : List Byte} (ht : s.takesQueue l tag (.post (queueField q) urgent payload))
    (hq : s.queue q = some d) (hm : d.mask.getLsbD l.val = true)
    (hp : (s.queueTaken l).placeMessage q d ⟨BitVec.ofNat 8 l.val, s.hostId l, s.clock, urgent, payload⟩ = (.handed, t)) :
    exec (.post l tag (queueField q) urgent payload) s = .next (t.answer l tag 0x24 .ok [t.heldAfter q, 1]) := by
  have hq' : (s.queueTaken l).queue q = some d := hq
  have hm' : maskAdmits d.mask l = true := hm
  have hp' : (s.queueTaken l).placeMessage q d ⟨countByte l.val, (s.queueTaken l).hostId l, (s.queueTaken l).clock, urgent, payload⟩ = (.handed, t) := hp
  refine (ht.exec rfl).trans ?_
  simp only [State.takePost, queueOf_queueField, hq', hm', Bool.true_eq_false, if_false, hp']
  rfl

theorem exec_post_stored {urgent dropped : Bool} {payload : List Byte} (ht : s.takesQueue l tag (.post (queueField q) urgent payload))
    (hq : s.queue q = some d) (hm : d.mask.getLsbD l.val = true)
    (hp : (s.queueTaken l).placeMessage q d ⟨BitVec.ofNat 8 l.val, s.hostId l, s.clock, urgent, payload⟩ = (.stored dropped, t)) :
    exec (.post l tag (queueField q) urgent payload) s = .next (t.answer l tag 0x24 .ok [t.heldAfter q, if dropped then 2 else 0]) := by
  have hq' : (s.queueTaken l).queue q = some d := hq
  have hm' : maskAdmits d.mask l = true := hm
  have hp' : (s.queueTaken l).placeMessage q d ⟨countByte l.val, (s.queueTaken l).hostId l, (s.queueTaken l).clock, urgent, payload⟩ =
    (.stored dropped, t) := hp
  refine (ht.exec rfl).trans ?_
  simp only [State.takePost, queueOf_queueField, hq', hm', Bool.true_eq_false, if_false, hp']
  cases dropped <;> rfl

/-- A POST whose message finds no place takes the fault of the place that is missing. -/
theorem exec_post_full {urgent : Bool} {payload : List Byte} {capacity : Nat} (ht : s.takesQueue l tag (.post (queueField q) urgent payload))
    (hq : s.queue q = some d) (hm : d.mask.getLsbD l.val = true)
    (hp : (s.queueTaken l).placeMessage q d ⟨BitVec.ofNat 8 l.val, s.hostId l, s.clock, urgent, payload⟩ = (.queueFull capacity, t)) :
    exec (.post l tag (queueField q) urgent payload) s = .next (t.raiseInQueue ⟨l, tag, 0x24, [BitVec.ofNat 8 d.messages.length, 0]⟩
      ⟨.queueFull, BitVec.ofNat 16 q.val, BitVec.ofNat 32 capacity⟩) := by
  have hq' : (s.queueTaken l).queue q = some d := hq
  have hm' : maskAdmits d.mask l = true := hm
  have hp' : (s.queueTaken l).placeMessage q d ⟨countByte l.val, (s.queueTaken l).hostId l, (s.queueTaken l).clock, urgent, payload⟩ =
    (.queueFull capacity, t) := hp
  refine (ht.exec rfl).trans ?_
  simp only [State.takePost, queueOf_queueField, hq', hm', Bool.true_eq_false, if_false, hp', State.heldByte_of_queue hq', queueSubject_queueField]
  rfl

theorem exec_post_noSlot {urgent : Bool} {payload : List Byte} (ht : s.takesQueue l tag (.post (queueField q) urgent payload))
    (hq : s.queue q = some d) (hm : d.mask.getLsbD l.val = true)
    (hp : (s.queueTaken l).placeMessage q d ⟨BitVec.ofNat 8 l.val, s.hostId l, s.clock, urgent, payload⟩ = (.poolEmpty, t)) :
    exec (.post l tag (queueField q) urgent payload) s = .next (t.raiseInQueue ⟨l, tag, 0x24, [BitVec.ofNat 8 d.messages.length, 0]⟩
      ⟨.poolEmpty, BitVec.ofNat 16 q.val, 0⟩) := by
  have hq' : (s.queueTaken l).queue q = some d := hq
  have hm' : maskAdmits d.mask l = true := hm
  have hp' : (s.queueTaken l).placeMessage q d ⟨countByte l.val, (s.queueTaken l).hostId l, (s.queueTaken l).clock, urgent, payload⟩ = (.poolEmpty, t) := hp
  refine (ht.exec rfl).trans ?_
  simp only [State.takePost, queueOf_queueField, hq', hm', Bool.true_eq_false, if_false, hp', State.heldByte_of_queue hq', queueSubject_queueField]
  rfl

/-- The report of a message that arrives in an empty queue (R94). -/
theorem State.arrivalEdge_links (s : State) (q : QueueIx) (d : Queue) :
    s.arrivalEdge q d = { s with links := match d.owner with
      | some k => if d.notify && d.messages.isEmpty then
          setAt s.links k { s.link k with reports := { (s.link k).reports with arrivals := insertIx q (s.link k).reports.arrivals } }
        else s.links
      | none => s.links } := by
  unfold State.arrivalEdge
  cases d.owner with
  | none => rfl
  | some k => dsimp only; split <;> rfl

theorem State.arrivalEdge_queues (s : State) (q : QueueIx) (d : Queue) : (s.arrivalEdge q d).queues = s.queues := by
  rw [State.arrivalEdge_links]

end Sys2Proof.Machine

namespace Sys2Proof.Proofs

open Sys2Proof.Machine

/-- Settles O41: the message goes where the first case of R86 that applies puts it, and the reply says what came of it. -/
theorem postIsPlacedByTheFirstCase : Obligations.PostIsPlacedByTheFirstCase := by
  intro s l tag q d urgent payload ht hq hm
  refine ⟨fun w hw => ?_, fun hw hc hfree => ?_, fun hw hc ho before x after hms hx => ?_, fun hw hc ho => ?_, fun hw hc hfree => ?_⟩
  · have hexec := exec_post_handed ht hq hm (State.placeMessage_handed hw)
    have hheld : ((s.queueTaken l).handOver q d w ⟨BitVec.ofNat 8 l.val, s.hostId l, s.clock, urgent, payload⟩).heldAfter q =
        countByte d.messages.length := State.heldAfter_of_queue (d := { d with waitingTake := none }) (State.setQueue_queue_same (s.queueTaken l) q _)
    rw [hheld] at hexec
    exact ⟨_, hexec, ⟨State.setQueue_queue_same (s.queueTaken l) q _, fun k hk => State.setQueue_queue_ne (s.queueTaken l) hk _⟩, rfl⟩
  · have hexec := exec_post_stored ht hq hm (State.placeMessage_append hw hc hfree)
    have hstored := State.setQueue_queue_same (s.queueTaken l) q { d with
      messages := d.messages ++ [⟨BitVec.ofNat 8 l.val, s.hostId l, s.clock, urgent, payload⟩] }
    have hheld := State.heldAfter_of_queue ((State.queue_congr (State.arrivalEdge_queues _ q d) q).trans hstored)
    rw [hheld, List.length_append, State.arrivalEdge_links] at hexec
    exact ⟨_, hexec, ⟨hstored, fun k hk => State.setQueue_queue_ne (s.queueTaken l) hk _⟩, rfl⟩
  · have hexec := exec_post_stored ht hq hm (State.placeMessage_drop hw hc ho)
    have hlen : d.messages.length = (before ++ after).length + 1 := by rw [hms]; simp; omega
    rw [dropOldest_eq hms hx] at hexec
    have hheld := State.heldAfter_of_queue (State.setQueue_queue_same (s.queueTaken l) q { d with
      messages := before ++ after ++ [⟨BitVec.ofNat 8 l.val, s.hostId l, s.clock, urgent, payload⟩], drops := saturate Config.dropMax d.drops })
    rw [hheld, List.length_append, List.length_singleton, ← hlen] at hexec
    exact ⟨_, hexec, ⟨State.setQueue_queue_same (s.queueTaken l) q _, fun k hk => State.setQueue_queue_ne (s.queueTaken l) hk _⟩, rfl⟩
  · exact exec_post_full ht hq hm (State.placeMessage_full hw hc ho)
  · exact exec_post_noSlot ht hq hm (State.placeMessage_noSlot hw hc hfree)

/-- Settles O42: each request stops at its first failing check. -/
theorem queueChecksFaultInOrder : Obligations.QueueChecksFaultInOrder := by
  refine ⟨fun s l tag queue r hr ht => ⟨fun h => exec_queueIndex_large hr h ht, ?_, ?_, ?_⟩, fun s l tag queue urgent payload ht => ⟨fun h => ?_, ?_, ?_⟩,
    fun s l tag queue wait r hr ht => ⟨fun h => ?_, ?_, ?_⟩⟩
  · rintro label capacity overflow mask intended notify rfl hsmall
    obtain ⟨q, rfl⟩ := exists_queueField hsmall
    have hcap : 1 ≤ capacity.toNat → capacity.toNat ≤ 64 → ¬(capacity = 0 ∨ Config.capacityMax < capacity.toNat) := by
      rintro h1 h64 (rfl | h)
      · exact absurd h1 (by decide)
      · exact absurd h (Nat.not_lt.mpr h64)
    refine ⟨fun hc => (ht.exec rfl).trans ?_, fun h1 h64 ha => (ht.exec rfl).trans ?_, fun q' d h1 h64 ha hq' hd => (ht.exec rfl).trans ?_⟩
    · have hc' : capacity = 0 ∨ Config.capacityMax < capacity.toNat := hc
      simp only [State.takeCreate, queueOf_queueField, if_pos hc', createDefault_eq]
      rfl
    · have ha' : (s.queueTaken l).admin ≠ some l := ha
      simp only [State.takeCreate, queueOf_queueField, if_neg (hcap h1 h64), if_pos ha', createDefault_eq]
      rfl
    · have hqq : q' = q := Option.some.inj (by rw [← queueOf_queueField q', ← hq', queueOf_queueField])
      have hd' : (s.queueTaken l).queue q = some d := hqq ▸ hd
      have ha' : ¬(s.queueTaken l).admin ≠ some l := not_not.mpr ha
      simp only [State.takeCreate, queueOf_queueField, if_neg (hcap h1 h64), if_neg ha', hd', createDefault_eq, queueStateByte_some]
      rfl
  · rintro rfl hsmall
    obtain ⟨q, rfl⟩ := exists_queueField hsmall
    refine ⟨fun ha => (ht.exec rfl).trans ?_, fun q' ha hq' hd => (ht.exec rfl).trans ?_⟩
    · have ha' : (s.queueTaken l).admin ≠ some l := ha
      simp only [State.takeDestroy, queueOf_queueField, if_pos ha']
      rfl
    · have hqq : q' = q := Option.some.inj (by rw [← queueOf_queueField q', ← hq', queueOf_queueField])
      have hd' : (s.queueTaken l).queue q = none := hqq ▸ hd
      have ha' : ¬(s.queueTaken l).admin ≠ some l := not_not.mpr ha
      simp only [State.takeDestroy, queueOf_queueField, if_neg ha', hd']
      rfl
  · rintro q rfl rfl hd
    have hd' : (s.queueTaken l).queue q = none := hd
    refine (ht.exec rfl).trans ?_
    simp only [State.takeBind, queueOf_queueField, hd']
    rfl
  · exact exec_queueIndex_large (r := .post queue urgent payload) rfl h ht
  · rintro q rfl hd
    have hd' : (s.queueTaken l).queue q = none := hd
    refine (ht.exec rfl).trans ?_
    simp only [State.takePost, queueOf_queueField, hd']
    rfl
  · rintro q d rfl hd hm
    have hd' : (s.queueTaken l).queue q = some d := hd
    have hm' : maskAdmits d.mask l = false := hm
    refine (ht.exec rfl).trans ?_
    simp only [State.takePost, queueOf_queueField, hd', if_pos hm']
    rfl
  · exact exec_ownedQueue_error hr ht (State.ownedQueue_large h)
  · rintro q rfl hd
    exact exec_ownedQueue_error hr ht (State.ownedQueue_absent hd)
  · rintro q d rfl hd ho
    rw [exec_ownedQueue_error hr ht (State.ownedQueue_notOwner hd ho), notOwnerFault]
    cases d.owner with
    | none => rfl
    | some k => rw [linkByte_some_setWidth]; rfl

/-- Settles O43: the head goes; or, with none, the wait and the take already there decide. -/
theorem takeRemovesTheHeadOrWaits : Obligations.TakeRemovesTheHeadOrWaits := by
  intro s l tag q d wait ht hq ho
  have howned : (s.queueTaken l).ownedQueue l (queueField q) = .ok (q, d) := State.ownedQueue_owner (s := s.queueTaken l) hq ho
  refine ⟨fun before x after hms hx => ?_, fun hms hw => (ht.exec rfl).trans ?_, fun hms hw hnone => ?_, fun w hms hw hsome => (ht.exec rfl).trans ?_⟩
  · obtain ⟨hhead, hrest⟩ := headMessage_eq hms hx
    let r := (s.queueTaken l).setQueue q { d with messages := before ++ after }
    have hremoved : (s.queueTaken l).removeHead l q d = { r with
        links := setAt s.links l { s.link l with reports := { (s.link l).reports with
          arrivals := if before ++ after = [] then (s.link l).reports.arrivals.filter fun j => decide (j ≠ q) else (s.link l).reports.arrivals } } } := by
      simp only [State.removeHead, hrest]
      by_cases he : before ++ after = []
      · rw [if_pos (by simp [he]), if_pos he]
        rfl
      · have hl : setAt s.links l (s.link l) = s.links := setAt_getAt ..
        rw [if_neg (by simpa using he), if_neg he, hl]
        rfl
    refine ⟨((s.queueTaken l).removeHead l q d).withReply l ⟨0xA5, tag, .ok, countByte (before ++ after).length :: messageFields x⟩, (ht.exec rfl).trans ?_, ?_, fun k hk => ?_, ?_⟩
    · simp only [State.takeTake, howned, hhead, hrest]
      rfl
    · rw [hremoved]; exact State.setQueue_queue_same ..
    · rw [hremoved]; exact State.setQueue_queue_ne (s.queueTaken l) hk _
    · rw [hremoved]
      simp only [State.withReply, State.link, getAt_setAt_same, setAt_setAt]
      rfl
  · simp only [State.takeTake, howned, hms, headMessage, List.find?_nil, List.head?_nil, if_pos hw]
    rfl
  · refine ⟨(s.queueTaken l).setQueue q { d with waitingTake := some ⟨l, tag, s.clock + BitVec.ofNat 32 wait.toNat⟩ }, (ht.exec rfl).trans ?_,
      State.setQueue_queue_same .., fun k hk => State.setQueue_queue_ne (s.queueTaken l) hk _, rfl⟩
    simp only [State.takeTake, howned, hms, headMessage, List.find?_nil, List.head?_nil, if_neg hw, hnone]
    rfl
  · simp only [State.takeTake, howned, hms, headMessage, List.find?_nil, List.head?_nil, if_neg hw, hsome, queueSubject_queueField]
    rfl

/-- Settles O44. -/
theorem peekAndQueryQueueChangeNothing : Obligations.PeekAndQueryQueueChangeNothing := by
  refine fun s l tag q => ⟨fun d ht hq ho => ?_, fun ht => ⟨fun d hq => (ht.exec rfl).trans ?_, fun hq => (ht.exec rfl).trans ?_⟩⟩
  · have howned : (s.queueTaken l).ownedQueue l (queueField q) = .ok (q, d) := State.ownedQueue_owner (s := s.queueTaken l) hq ho
    refine ⟨fun before x after hms hx => (ht.exec rfl).trans ?_, fun hms => (ht.exec rfl).trans ?_⟩
    · simp only [State.takePeek, howned, (headMessage_eq hms hx).1]
      rfl
    · simp only [State.takePeek, howned, hms, headMessage, List.find?_nil, List.head?_nil]
      rfl
  · have hq' : (s.queueTaken l).queue q = some d := hq
    have hstate : queueStateByte (some d) = if d.owner = none then 1 else 2 := by cases h : d.owner <;> simp [queueStateByte, h]
    simp only [State.takeQueryQueue, queueOf_queueField, hq', State.queueFields, hstate]
    rfl
  · have hq' : (s.queueTaken l).queue q = none := hq
    simp only [State.takeQueryQueue, queueOf_queueField, hq', State.queueFields]
    rfl

/-- Settles O45: the record is placed or lost, the faulting request answered, and its drain may go on. -/
theorem forwardPostCompletesTheRequest : Obligations.ForwardPostCompletesTheRequest := by
  intro s p rest hr hposts goesOn m
  have hexec : ∀ t b, State.placeForward { s with forwardPosts := rest } p.queue p.record = (b, t) →
      exec .forwardPost s = .next (goesOn (t.finishForward ⟨p.link, p.tag, p.kind, p.fields⟩ b)) := by
    intro t b hp
    have hstands : s.resetStands = false := by rw [State.resetStands, hr]; rfl
    show execForwardPost s = _
    simp only [execForwardPost, hstands, Bool.false_eq_true, if_false, State.takeForwardPost, hposts, hp, goesOn]
    cases p.resume with
    | none => rfl
    | some c => exact congrArg Host.Outcome.next (State.pauseDrain_eq ..)
  refine ⟨fun d hq hplace => ?_, fun hlost => ?_⟩
  · obtain ⟨t, hp, hplaced⟩ := State.placeForward_placed (s := { s with forwardPosts := rest }) hq hplace p.record
    exact ⟨t, hplaced, hexec t true hp⟩
  · refine (hexec _ false (State.placeForward_lost (s := { s with forwardPosts := rest }) hlost p.record)).trans ?_
    rfl

/-- Settles O46. -/
theorem waitingTakeExpiresEmpty : Obligations.WaitingTakeExpiresEmpty := by
  intro s q d w hs hr hq hw hdue
  have hsettle : (if s.inProgress then s else s.settle) = s := by
    split
    · rfl
    · next hp => exact State.settle_of_settled (hs.resolve_right hp)
  have htake : s.dueTake q = some d := by
    simp only [State.dueTake, hq, hw]
    exact if_pos (decide_eq_true hdue)
  refine ⟨(s.endWaitingTake d .empty [0]).setQueue q { d with waitingTake := none }, ?_, State.setQueue_queue_same .., fun k hk => ?_, ?_⟩
  · show execWaitingTakeExpiry q s = _
    simp only [execWaitingTakeExpiry, State.lapseTake, hsettle, State.resetStands, hr, Option.isSome_none, Bool.false_eq_true, if_false, htake]
    rfl
  · refine (State.setQueue_queue_ne _ hk _).trans (State.queue_congr ?_ k)
    rw [State.endWaitingTake_frame]
  · simp only [State.endWaitingTake, hw]
    rfl

end Sys2Proof.Proofs
end

section
/-! PROOF. The statements about the transmitters: what is sent next, what a CHANGED report reads, and the frame whose end begins the reset. -/

set_option Elab.async false

namespace Sys2Proof.Machine

variable {s : State} {l : Link} {c : CellIx} {q : QueueIx}

/-! ## The choice (R159) -/

/-- An IDLE transmitter chooses in the state as it is, unless the choice is a CHANGED report that waits for an operation in progress. -/
theorem exec_transmitterChoice (hidle : (s.link l).transmitter = .idle)
    (h : s.settled = true ∨ s.inProgress = true ∧ s.changedIsNext l = false) : exec (.transmitterChoice l) s = .next (s.choose l) := by
  show execTransmitterChoice l s = _
  simp only [execTransmitterChoice, hidle]
  rcases h with hs | ⟨hp, hc⟩
  · rw [State.settle_of_settled hs, ite_self]
  · rw [if_pos (by simp [hp, hc])]

theorem exec_transmitterChoice_unchanged (hidle : (s.link l).transmitter = .idle) (hs : s.settled = true ∨ s.inProgress = true)
    (hc : s.changedIsNext l = false) : exec (.transmitterChoice l) s = .next (s.choose l) :=
  exec_transmitterChoice hidle (hs.imp_right fun hp => ⟨hp, hc⟩)

theorem exec_transmitterChoice_sending {frame : List Byte} (h : (s.link l).transmitter = .sending frame) :
    exec (.transmitterChoice l) s = .next s := by
  show execTransmitterChoice l s = _
  simp only [execTransmitterChoice, h]

theorem State.choose_report (h : (s.link l).replies = []) : s.choose l = s.chooseReport l := by
  simp only [State.choose, h]

theorem State.updLink_send (s : State) (l : Link) (f : LinkUnit → LinkUnit) (frame : List Byte) :
    (s.updLink l f).send l frame = s.withLink l { f (s.link l) with transmitter := .sending frame } := by
  simp only [State.send, State.updLink, State.withLink, State.link, getAt_setAt_same, setAt_setAt]

/-! ## The CHANGED entries -/

theorem lowest_eq_none {cs : List CellIx} (h : lowest cs = none) : cs = [] := by
  cases cs with
  | nil => rfl
  | cons c cs => cases hl : lowest cs <;> simp [lowest, hl] at h

theorem lowest_spec {cs : List CellIx} (h : lowest cs = some c) : c ∈ cs ∧ ∀ k ∈ cs, c ≤ k := by
  induction cs generalizing c with
  | nil => simp [lowest] at h
  | cons d cs ih =>
    cases hl : lowest cs with
    | none =>
      simp only [lowest, hl, Option.some.injEq] at h
      subst h
      simp [lowest_eq_none hl]
    | some e =>
      simp only [lowest, hl, Option.some.injEq] at h
      obtain ⟨hmem, hle⟩ := ih hl
      by_cases hde : d ≤ e
      · rw [if_pos hde] at h
        subst h
        exact ⟨List.mem_cons_self, List.forall_mem_cons.mpr ⟨Nat.le_refl _, fun k hk => Nat.le_trans hde (hle k hk)⟩⟩
      · rw [if_neg hde] at h
        subst h
        exact ⟨List.mem_cons_of_mem _ hmem, List.forall_mem_cons.mpr ⟨Nat.le_of_lt (Nat.lt_of_not_le hde), hle⟩⟩

theorem lowest_eq_some {cs : List CellIx} (hmem : c ∈ cs) (hle : ∀ k ∈ cs, c ≤ k) : lowest cs = some c := by
  cases h : lowest cs with
  | none => rw [lowest_eq_none h] at hmem; exact absurd hmem List.not_mem_nil
  | some d =>
    obtain ⟨hd, hled⟩ := lowest_spec h
    exact congrArg some (Fin.le_antisymm (hled c hmem) (hle d hd))

theorem State.mem_changedCells : c ∈ s.changedCells l ↔ ∃ w ∈ s.watches, w.link = l ∧ w.pending ≠ none ∧ w.cell = c := by
  simp only [State.changedCells, List.mem_filterMap]
  refine exists_congr fun w => and_congr_right fun _ => ?_
  by_cases h : w.link = l ∧ w.pending.isSome
  · simp [h, Option.isSome_iff_ne_none.mp h.2]
  · rw [if_neg h]
    exact ⟨nofun, fun ⟨h1, h2, _⟩ => absurd ⟨h1, Option.isSome_iff_ne_none.mpr h2⟩ h⟩

theorem State.changedCells_eq_nil (h : ∀ w ∈ s.watches, w.link = l → w.pending = none) : s.changedCells l = [] := by
  refine List.eq_nil_iff_forall_not_mem.mpr fun c hc => ?_
  obtain ⟨w, hw, hl, hp, -⟩ := State.mem_changedCells.mp hc
  exact hp (h w hw hl)

/-- The lowest element of a rising list is its head. -/
theorem eq_cons_of_lowest {qs : List QueueIx} (hmem : q ∈ qs) (hle : ∀ k ∈ qs, q ≤ k) (hrise : qs.Pairwise (fun a b => a < b)) :
    ∃ rest, qs = q :: rest := by
  cases qs with
  | nil => exact absurd hmem List.not_mem_nil
  | cons k rest =>
    rcases List.mem_cons.mp hmem with rfl | hq
    · exact ⟨rest, rfl⟩
    · exact absurd (List.rel_of_pairwise_cons hrise hq) (Nat.not_lt.mpr (hle k List.mem_cons_self))

/-- What a report of the cell says: the value as it stands after the access, in which a bad one reads as 0 with the mark set. -/
theorem State.accessCell_report (s : State) (c : CellIx) :
    let x := s.cell c
    let d := (s.accessCell c).2
    (x.poisoned = true ∨ x.checkFails = false → d = s) ∧ (x.poisoned = false → x.checkFails = true → Detected s d c) ∧
      (d.cell c).poisoned = (x.poisoned || x.checkFails) ∧ (d.cell c).value = x.value ∧ (d.cell c).version = x.version ∧ d.watches = s.watches := by
  dsimp only
  cases hp : (s.cell c).poisoned with
  | true =>
    rw [State.accessCell_poisoned hp]
    exact ⟨fun _ => rfl, nofun, hp, rfl, rfl, rfl⟩
  | false =>
    cases hf : (s.cell c).checkFails with
    | false =>
      rw [State.accessCell_good hp hf]
      exact ⟨fun _ => rfl, nofun, hp, rfl, rfl, rfl⟩
    | true =>
      rw [State.accessCell_failing hp hf]
      refine ⟨by simp, fun _ _ => s.detect_detected c, by simp, by simp, by simp, ?_⟩
      show (s.detect c).watches = s.watches
      rw [State.detect_eq]

/-! ## The frame that has been sent -/

theorem exec_frameSent_plain {frame : List Byte} (h : (s.link l).transmitter = .sending frame)
    (hr : ∀ r, s.resetRequest = some r → r.link = l → isResetReply frame = false) :
    exec (.frameSent l) s = .next (s.withLink l { s.link l with transmitter := .idle }) := by
  show execFrameSent l s = _
  have hreq : (s.updLink l fun u => { u with transmitter := .idle }).resetRequest = s.resetRequest := rfl
  simp only [execFrameSent, h, hreq]
  cases hrr : s.resetRequest with
  | none => rfl
  | some r => exact if_neg fun ⟨hl, hf⟩ => absurd hf (by simp [hr r hrr hl])

theorem exec_frameSent_reset {frame : List Byte} {scope : Scope} (h : (s.link l).transmitter = .sending frame)
    (hr : s.resetRequest = some ⟨scope, l⟩) (hf : isResetReply frame = true) :
    exec (.frameSent l) s = .next (State.beginReset (s.withLink l { s.link l with transmitter := .idle }) scope) := by
  show execFrameSent l s = _
  have hreq : (s.updLink l fun u => { u with transmitter := .idle }).resetRequest = some ⟨scope, l⟩ := hr
  simp only [execFrameSent, h, hreq]
  exact if_pos ⟨trivial, hf⟩

/-- A link unit at the beginning of a reset, its held RESYNC taken. -/
theorem LinkUnit.resetBegun_taken (back : Clock) (u : LinkUnit) : (u.resetBegun back).takeHeldResync = u.afterReset back := by
  have hreceiver : u.receiver.rebase back = (u.afterReset back).receiver := by cases h : u.receiver <;> simp [LinkUnit.afterReset, Receiver.rebase, h]
  cases hheld : u.heldResync <;>
    simp [LinkUnit.takeHeldResync, LinkUnit.resetBegun, LinkUnit.afterReset, noticeIfCounted, hheld, hreceiver]

theorem State.beginReset_begun (s : State) (scope : Scope) : ResetBegun s (s.beginReset scope) scope where
  hub := ⟨rfl, rfl, rfl⟩
  sessions _ := getAt_replicate ..
  links l := by
    refine (getAt_mapLinks ..).trans ((LinkUnit.resetBegun_taken ..).trans ?_)
    cases scope <;> rfl
  arbiters := ⟨rfl, rfl, rfl, rfl, rfl, fun _ => ⟨getAt_replicate .., getAt_replicate ..⟩⟩
  entries _ := getAt_replicate ..
  holdUnit := ⟨rfl, rfl⟩
  watches := rfl
  queues _ := rfl
  pool := rfl
  faults _ := getAt_replicate ..
  counters := ⟨rfl, rfl⟩
  detections := ⟨rfl, rfl⟩
  cells _ := by cases scope <;> rfl
  configuration := by cases scope <;> rfl
  clock := by cases scope <;> rfl
  scrub := by cases scope <;> rfl
  kept := ⟨rfl, rfl, rfl, rfl⟩

end Sys2Proof.Machine

namespace Sys2Proof.Proofs

open Sys2Proof.Machine

/-- Settles O16: a reply goes before every report, and a transmitter that is SENDING does not choose. -/
theorem transmitterSendsRepliesFirst : Obligations.TransmitterSendsRepliesFirst := by
  refine ⟨fun s l hs => ⟨fun r rest hidle hreplies => ?_, fun _ => exec_transmitterChoice_sending⟩, fun s l frame hsend hr => exec_frameSent_plain hsend ?_⟩
  · have hc : s.changedIsNext l = false := by simp [State.changedIsNext, hreplies]
    rw [exec_transmitterChoice_unchanged hidle hs hc]
    simp only [State.choose, hreplies]
    rw [State.updLink_send]
    rfl
  · intro r hrr hl
    have := hr r hrr hl
    by_cases h2 : frame[2]? = some 0xB5 <;> simp_all [isResetReply]

/-- Settles O17: `chooseReport` looks at the keys in their order, and the rising ARRIVALs begin with the lowest. -/
theorem reportsAreSentInOrderOfKey : Obligations.ReportsAreSentInOrderOfKey := by
  refine ⟨fun s l hs hidle hreplies => ⟨fun e he => ?_, fun he hrole => ?_, fun he hrole hint => ?_, fun he hrole hint e hentry => ?_⟩,
    fun s l hs hidle hreplies he hrole hint hentry hwatch => ?_⟩
  · rw [exec_transmitterChoice_unchanged hidle hs (by simp [State.changedIsNext, he]), State.choose_report hreplies]
    simp only [State.chooseReport, he, State.sendSessionEnded, State.updReports, State.updLink_send]
    cases e.reason <;> rfl
  · rw [exec_transmitterChoice_unchanged hidle hs (by simp [State.changedIsNext, hrole]), State.choose_report hreplies]
    simp only [State.chooseReport, he, hrole, if_true, State.sendRole, State.updReports, State.updLink_send]
    rw [flagByte_decide]
    rfl
  · rw [exec_transmitterChoice_unchanged hidle hs (by simp [State.changedIsNext, hint]), State.choose_report hreplies]
    have hnext : s.chooseReport l = s.sendIntegrity l := by simp only [State.chooseReport, he, hrole, hint, if_true, Bool.false_eq_true, if_false]
    rw [hnext]
    exact congrArg Host.Outcome.next (State.updLink_send { s with unreported := 0 } l (fun u => { u with
      reports := { u.reports with integrity := false } }) _)
  · rw [exec_transmitterChoice_unchanged hidle hs (by simp [State.changedIsNext, hentry]), State.choose_report hreplies]
    simp only [State.chooseReport, he, hrole, hint, hentry, Bool.false_eq_true, if_false, State.sendLinkEntry, State.updLink_send]
    rfl
  · have hcells := State.changedCells_eq_nil hwatch
    have hexec : exec (.transmitterChoice l) s = .next (s.choose l) :=
      exec_transmitterChoice_unchanged hidle hs (by simp [State.changedIsNext, hcells])
    rw [hexec, State.choose_report hreplies]
    refine ⟨fun q d hmem hle hrise hq => ?_, fun hnone => ?_⟩
    · obtain ⟨rest, harr⟩ := eq_cons_of_lowest hmem hle hrise
      simp only [State.chooseReport, he, hrole, hint, hentry, hcells, lowest, harr, Bool.false_eq_true, if_false, State.sendArrival, hq,
        State.withdrawArrival, State.updReports, State.updLink_send]
      rfl
    · simp only [State.chooseReport, he, hrole, hint, hentry, hcells, lowest, hnone, Bool.false_eq_true, if_false]

/-- Settles O18: the lowest pending watch is reported from the cell as the access leaves it. -/
theorem changedReportReadsTheCell : Obligations.ChangedReportReadsTheCell := by
  intro s l w n hs hidle hreplies he hrole hint hentry hw hl hpending hunique hlow x bad
  have hlowest : lowest (s.changedCells l) = some w.cell := by
    refine lowest_eq_some (State.mem_changedCells.mpr ⟨w, hw, hl, by simp [hpending], rfl⟩) fun k hk => ?_
    obtain ⟨v, hv, hvl, hvp, rfl⟩ := State.mem_changedCells.mp hk
    exact hlow v hv hvl hvp
  have hchoose : exec (.transmitterChoice l) s = .next (s.sendChanged l w.cell) := by
    rw [exec_transmitterChoice hidle (.inl hs), State.choose_report hreplies]
    simp only [State.chooseReport, he, hrole, hint, hentry, hlowest, Bool.false_eq_true, if_false]
  have hcount : ((s.watchOf l w.cell).bind Watch.pending).getD 0 = n := by
    rw [State.watchOf_eq_some hw hl rfl hunique]
    simp [hpending]
  obtain ⟨hkept, hfound, hpoisoned, hvalue, hversion, hwatches⟩ := s.accessCell_report w.cell
  refine ⟨(s.accessCell w.cell).2, _, hchoose, hkept, hfound, ?_⟩
  have hcell : ∀ ws, State.cell { (s.accessCell w.cell).2 with watches := ws } w.cell = (s.accessCell w.cell).2.cell w.cell := fun _ => rfl
  simp only [State.sendChanged, hcount, hpoisoned, hvalue, hversion, hwatches]
  rfl

/-- Settles O19. -/
theorem resetBeginsWhenItsReplyIsSent : Obligations.ResetBeginsWhenItsReplyIsSent := fun _ _ scope _ hr hsend =>
  ⟨_, exec_frameSent_reset hsend hr rfl, State.beginReset_begun _ scope⟩

end Sys2Proof.Proofs
end

section
/-! PROOF. The passing of time: what has been taken when the clock counts, the expiry of a hold, and a state in which something due is left behind. -/

set_option Elab.async false

namespace Sys2Proof.Machine

variable {s t : State} {w w' : Work} {l : Link} {c : CellIx}

/-! ## What is settled -/

theorem State.closeDue_congr (hx : t.session l = s.session l) (ht : (t.link l).tags = (s.link l).tags) : t.closeDue l = s.closeDue l := by
  simp only [State.closeDue, hx, ht]

/-- A teardown leaves the requests in flight on every other link. -/
theorem TornDown.tags {k : Link} (h : TornDown s t l) (hk : k ≠ l) : (t.link k).tags = (s.link k).tags := by
  by_cases ha : s.admin = some l
  · have elected := h.role ha
    by_cases hw : t.admin = some k
    · rw [elected.gainer k hw]
    · rw [elected.otherLinks k hk hw]
  · rw [(h.roleKept ha).2 k hk]

theorem State.finishClose_closeDue_same (s : State) (l : Link) : (s.finishClose l).closeDue l = none := by
  unfold State.finishClose
  cases h : s.closeDue l with
  | none => exact h
  | some tag => simp only [State.closeDue, (s.cleanTeardown_tornDown l tag).detached]

theorem State.finishClose_closeDue_ne (s : State) {k : Link} (hk : k ≠ l) : (s.finishClose l).closeDue k = s.closeDue k := by
  unfold State.finishClose
  cases h : s.closeDue l with
  | none => rfl
  | some tag => exact State.closeDue_congr ((s.cleanTeardown_tornDown l tag).otherSessions k hk) ((s.cleanTeardown_tornDown l tag).tags hk)

theorem foldl_finishClose_closeDue (ls : List Link) (s : State) {k : Link} (h : k ∈ ls ∨ s.closeDue k = none) :
    (ls.foldl State.finishClose s).closeDue k = none := by
  induction ls generalizing s with
  | nil => exact h.resolve_left List.not_mem_nil
  | cons l ls ih =>
    refine ih _ ?_
    by_cases hk : k = l
    · subst hk; exact .inr (s.finishClose_closeDue_same k)
    · rw [s.finishClose_closeDue_ne hk]
      exact h.imp_left fun hm => (List.mem_cons.mp hm).resolve_left hk

/-- With what is due completed nothing is due, unless a reset request stands. -/
theorem State.settle_settled (h : s.resetStands = false) : s.settle.settled = true := by
  have hsettle : s.settle = allLinks.foldl State.finishClose s.finishOperation := by simp only [State.settle, h, Bool.false_eq_true, if_false]
  have hclose : ∀ l, s.settle.closeDue l = none := fun l => by
    rw [hsettle]
    exact foldl_finishClose_closeDue allLinks _ (.inl (mem_allLinks l))
  simp only [State.settled, State.settle_idle h, hclose, Option.isNone_none, Bool.not_false, Bool.true_and, List.all_eq_true, implies_true]

/-! ## The drains that are to come (R4, R54) -/

/-- The drains requested and those that the holds that stand can still bring. -/
def State.drainsLeft (s : State) : Nat := s.drains.length + s.holds.countP HoldRecord.stands

theorem State.drainsLeft_congr (hh : t.holds = s.holds) (hd : t.drains = s.drains) : t.drainsLeft = s.drainsLeft := by
  rw [State.drainsLeft, hh, hd, State.drainsLeft]

theorem State.endHold_drainsLeft (s : State) (l : Link) (c : CellIx) : (s.endHold l c).drainsLeft ≤ s.drainsLeft := by
  unfold State.drainsLeft
  by_cases ha : s.holds.any (isHoldOf l c) = true
  · obtain ⟨x, hx, hi⟩ := List.any_eq_true.mp ha
    have hless : (s.endHold l c).holds.countP HoldRecord.stands < s.holds.countP HoldRecord.stands := by
      rw [State.endHold_holds, if_pos ha, List.countP_map]
      refine countP_lt (fun y _ hy => ?_) hx (isHoldOf_iff.mp hi).2.2 (by simp [hi, HoldRecord.stands])
      simp only [Function.comp_apply] at hy
      split at hy
      · exact absurd hy (by simp [HoldRecord.stands])
      · exact hy
    rw [State.endHold_drains, if_pos ha, List.length_append, List.length_singleton]
    omega
  · rw [State.endHold_drains, if_neg ha, State.endHold_holds, if_neg ha]

theorem State.consumeEntry_drainsLeft (s : State) (l : Link) : (s.consumeEntry l).drainsLeft ≤ s.drainsLeft := by
  rcases s.consumeEntry_holds l with ⟨c, _, _, hh, hd⟩ | ⟨_, hh, hd⟩
  · exact (State.drainsLeft_congr hh hd).trans_le (s.endHold_drainsLeft l c)
  · exact (State.drainsLeft_congr hh hd).le

theorem State.modify_drainsLeft (s : State) (c : CellIx) (v : Quad) (l : Link) (k : Option Link) : (s.modify c v l k).drainsLeft ≤ s.drainsLeft := by
  rcases s.modify_holds_cases c v l k with ⟨j, _, _, _, hh, hd⟩ | ⟨_, hh, hd⟩
  · exact (State.drainsLeft_congr hh hd).trans_le (s.endHold_drainsLeft j c)
  · exact (State.drainsLeft_congr hh hd).le

/-- A drain that is taken is one less. -/
theorem startDrain_drainsLeft {rest : List CellIx} (h : s.drains = c :: rest) :
    State.drainsLeft { s with drains := rest, holds := s.holds.filter fun h => !(decide (h.cell = c) && !h.stands) } + 1 ≤ s.drainsLeft := by
  have hstand : (s.holds.filter fun h => !(decide (h.cell = c) && !h.stands)).countP HoldRecord.stands ≤ s.holds.countP HoldRecord.stands :=
    List.filter_sublist.countP_le
  simp only [State.drainsLeft, h, List.length_cons]
  omega

/-- No move of the hub's own adds a drain without a hold that ends. -/
theorem Move.drainsLeft_le (m : Move False w s w' t) : t.drainsLeft ≤ s.drainsLeft := by
  cases m with
  | consume l => exact s.consumeEntry_drainsLeft l
  | modify c v l => exact s.modify_drainsLeft c v l none
  | commit c v l => exact (State.consumeEntry_drainsLeft _ l).trans (s.modify_drainsLeft c v l (some l))
  | expire x =>
    exact (State.drainsLeft_congr (s := s.endHold x.holder x.cell) (by rw [State.expireHold_frame]) (by rw [State.expireHold_frame])).trans_le
      (s.endHold_drainsLeft x.holder x.cell)
  | startDrain c rest hc => exact (Nat.le_succ _).trans (startDrain_drainsLeft hc)
  | detect c => exact (State.drainsLeft_congr (by rw [State.detect_eq]) (by rw [State.detect_eq])).le
  | detachClean => exact (State.drainsLeft_congr (by rw [State.detach_frame]) (by rw [State.detach_frame])).le
  | detachAbrupt =>
    exact (State.drainsLeft_congr (by rw [State.emptyLink_frame, State.detach_frame]) (by rw [State.emptyLink_frame, State.detach_frame])).le
  | _ => first | contradiction | exact le_rfl

theorem Moves.drainsLeft_le (m : Moves False w s w' t) : t.drainsLeft ≤ s.drainsLeft :=
  m.keeps (P := fun _ t => t.drainsLeft ≤ s.drainsLeft) (fun m h => m.drainsLeft_le.trans h) le_rfl

theorem State.takeDrain_drainsLeft (hp : s.forwardPosts = []) (hd : s.draining = none) (h : s.drains ≠ []) :
    s.takeDrain.drainsLeft + 1 ≤ s.drainsLeft := by
  unfold State.takeDrain
  cases hc : s.drains with
  | nil => exact absurd hc h
  | cons c rest =>
    have hrest := (State.drainRest_moves (host := False)
      (s := { s with drains := rest, holds := s.holds.filter fun h => !(decide (h.cell = c) && !h.stands) }) c hp hd).drainsLeft_le
    exact (Nat.succ_le_succ hrest).trans (startDrain_drainsLeft hc)

/-- Taking drains, as often as they can come, leaves none and leaves nothing due. -/
theorem takeDrains_clear (n : Nat) (hr : s.resetStands = false) (hn : s.drainsLeft ≤ n) :
    (takeDrains n s).settled = true ∧ (takeDrains n s).drains = [] := by
  induction n generalizing s with
  | zero =>
    have hzero := ((s.settle_moves (host := False)).drainsLeft_le).trans hn
    refine ⟨State.settle_settled hr, List.eq_nil_of_length_eq_zero ?_⟩
    unfold State.drainsLeft at hzero
    exact Nat.le_zero.mp ((Nat.le_add_right ..).trans hzero)
  | succ n ih =>
    unfold takeDrains
    cases he : s.settle.drains with
    | nil =>
      rw [List.isEmpty_nil, if_pos rfl]
      exact ⟨State.settle_settled hr, he⟩
    | cons c rest =>
      rw [List.isEmpty_cons, if_neg Bool.false_ne_true]
      obtain ⟨hp, hd⟩ := State.inProgress_eq_false.mp (State.settle_idle hr)
      have hless := State.takeDrain_drainsLeft hp hd (he ▸ List.cons_ne_nil _ _)
      have hsettle := (s.settle_moves (host := False)).drainsLeft_le
      refine ih ?_ (by omega)
      rw [State.resetStands, (State.takeDrain_moves (host := False) hp hd).own.1, ← State.resetStands, State.settle_resetStands, hr]

theorem State.clearDrains_clear (h : s.resetStands = false) : s.clearDrains.settled = true ∧ s.clearDrains.drains = [] := by
  rw [State.clearDrains, if_neg (by simp [h])]
  exact takeDrains_clear _ h (Nat.add_le_add_left List.countP_le_length _)

/-! ## What is due is taken in no time -/

/-- Neither the hub clock nor a reset request has come to stand otherwise. -/
def SameTime (s t : State) : Prop := t.resetRequest = s.resetRequest ∧ t.clock = s.clock

theorem SameTime.trans {u : State} (h : SameTime s t) (h' : SameTime t u) : SameTime s u := ⟨h'.1.trans h.1, h'.2.trans h.2⟩

theorem SameTime.foldl {α : Type} {f : State → α → State} (hf : ∀ s x, SameTime s (f s x)) (xs : List α) (s : State) : SameTime s (xs.foldl f s) := by
  induction xs generalizing s with
  | nil => exact ⟨rfl, rfl⟩
  | cons x xs ih => exact (hf s x).trans (ih _)

theorem State.lapsePartial_sameTime (s : State) (l : Link) : SameTime s (s.lapsePartial l) := by
  unfold State.lapsePartial
  split
  · have hwork := s.settle.discardPartial_workKept l
    exact SameTime.trans (s.settle_moves (host := False)).own ⟨hwork.request, hwork.clock⟩
  · exact ⟨rfl, rfl⟩

theorem State.takeDue_sameTime (s : State) : SameTime s s.takeDue := by
  unfold State.takeDue
  exact (((SameTime.foldl State.lapsePartial_sameTime ..).trans (SameTime.foldl (fun s l => (s.lapseLease_moves (host := False) l).own) ..)).trans
    (SameTime.foldl (fun s q => (s.lapseTake_moves (host := False) q).own) ..)).trans
      ((SameTime.foldl (fun s c => (s.lapseHold_moves (host := False) c).own) ..).trans (State.clearDrains_moves (host := False) _).own)

/-- With what is due taken, no drain and no teardown is due, unless a reset request stands. -/
theorem State.takeDue_clear (h : s.resetRequest = none) : s.takeDue.settled = true ∧ s.takeDue.drains = [] := by
  have hdue : s.takeDue.resetRequest = none := s.takeDue_sameTime.1.trans h
  unfold State.takeDue at hdue ⊢
  dsimp only at hdue ⊢
  rw [(State.clearDrains_moves (host := False) _).own.1] at hdue
  exact State.clearDrains_clear (by rw [State.resetStands, hdue]; rfl)

theorem step_idle (hp : s.pending = []) (hr : s.rstn = true) : step s = .next s.takeDue.count := by
  simp only [step, hp, State.tick, hr, if_true]

theorem State.eq_of_count_eq (h : s.count = t.count) (hc : s.clock = t.clock) : s = t :=
  calc s
    _ = { s.count with clock := s.clock } := rfl
    _ = { t.count with clock := t.clock } := by rw [h, hc]
    _ = t := rfl

/-! ## The expiry of a hold (R34, R49) -/

theorem State.dueHold_eq_some {h : HoldRecord} {d : Clock} (hm : h ∈ s.holds) (hc : h.cell = c) (hph : h.phase = .standing d)
    (hdue : (s.clock - d).toNat < 2 ^ 31) (hu : ∀ k ∈ s.holds, k.cell = c → k = h) : s.dueHold c = some h := by
  have hi : isDue s.clock c h = true := by
    simp only [isDue, hc, hph, decide_true, Bool.true_and]
    exact decide_eq_true hdue
  rw [State.dueHold_eq]
  cases hf : s.holds.find? (isDue s.clock c) with
  | none => exact absurd hi (List.find?_eq_none.mp hf h hm)
  | some k =>
    have hk := List.find?_some hf
    simp only [isDue, Bool.and_eq_true, decide_eq_true_eq] at hk
    rw [hu k (List.mem_of_find?_eq_some hf) hk.1]

/-- The only hold of a cell that expires. -/
theorem State.expireHold_eq {h : HoldRecord} {d : Clock} {v : Word} (hm : h ∈ s.holds) (hph : h.phase = .standing d)
    (hu : ∀ k ∈ s.holds, k.cell = h.cell → k = h) (hv : (s.entry h.holder).reservation = .held h.cell v) :
    s.expireHold h = { s with
      holds := s.holds.map fun k => if k.cell = h.cell then { k with phase := .ended } else k
      drains := s.drains ++ [h.cell]
      entries := setAt s.entries h.holder ⟨.armed h.cell v, (s.entry h.holder).failures⟩
      counters := { s.counters with holdsExpired := s.counters.holdsExpired + 1 } } := by
  have hi : isHoldOf h.holder h.cell h = true := isHoldOf_iff.mpr ⟨rfl, rfl, HoldRecord.stands_iff.mpr ⟨d, hph⟩⟩
  have hmap : (s.holds.map fun k => if isHoldOf h.holder h.cell k then { k with phase := .ended } else k) =
      s.holds.map fun k => if k.cell = h.cell then { k with phase := .ended } else k := by
    refine List.map_congr_left fun k hk => ?_
    by_cases hc : k.cell = h.cell
    · obtain rfl := hu k hk hc
      rw [if_pos hi, if_pos rfl]
    · rw [if_neg hc, if_neg fun hi => hc (isHoldOf_iff.mp hi).1]
  rw [State.expireHold, State.endHold_of_stands (List.any_eq_true.mpr ⟨h, hm, hi⟩), hmap]
  have hv' : ∀ hs ds, (State.entry { s with holds := hs, drains := ds } h.holder).reservation = .held h.cell v := fun _ _ => hv
  simp only [hv', if_true]
  rfl

/-! ## A state that leaves a lease behind -/

/-- A session that is CLOSING with its lease run out, while a forward post is pending. Its two requests in flight are the faulting one and a waiting take, so that
its CLOSE is not in flight: no run of the hub leads here, but the statement is about every state. -/
def closingWithoutClose : State :=
  { State.reset with
    hubState := .ready
    sessions := setAt (Vector.replicate 8 none) 0 (some ⟨.closing, 1, false, 1, some 0⟩)
    links := setAt State.reset.links 0 { State.reset.link 0 with tags := [1, 2] }
    queues := [(0, { label := 0, capacity := 1, overflow := .refuse, mask := 0, intended := none, notify := false, owner := some 0,
                     waitingTake := some ⟨0, 1, 0⟩ })]
    forwardPosts := [⟨0, 2, 0x10, [], 31, [], none, none⟩] }

/-- The lease is not taken, since in the settled state the session is gone; but then the waiting take ends first, and the session stays. -/
theorem closingWithoutClose_takeDue :
    closingWithoutClose.takeDue.clock = 0 ∧ closingWithoutClose.takeDue.session 0 ≠ none ∧
      (closingWithoutClose.takeDue.lapseLease 0).session 0 = none := by decide +kernel

end Sys2Proof.Machine

namespace Sys2Proof.Proofs

open Sys2Proof.Machine

/-- Settles O37: the millisecond passes when the drains are cleared and no hold is due; an expiry is one `expireHold`. -/
theorem holdExpiryDowngradesTheHolder : Obligations.HoldExpiryDowngradesTheHolder := by
  refine ⟨fun s t hp hrstn hr hstep => ?_, fun s c h d v hs hr hm hc hph hdue hu hv => ?_⟩
  · obtain rfl : s.takeDue.count = t := Host.Outcome.next.inj ((step_idle hp hrstn).symm.trans hstep)
    obtain ⟨hreq, hclock⟩ := s.takeDue_sameTime
    obtain ⟨hsettled, hdrains⟩ := State.takeDue_clear hr
    have hnotDue : ∀ h ∈ s.takeDue.holds, ∀ d, h.phase = .standing d → reached s.clock d = false := fun h hm d hph => by
      have hnone := List.find?_eq_none.mp (s.takeDue_dueHold (hreq.trans hr) h.cell) h hm
      simpa [hph, hclock] using hnone
    generalize s.takeDue = u at hclock hsettled hdrains hnotDue ⊢
    refine ⟨by rw [State.count_clock, hclock], hsettled, hdrains, hnotDue, fun hw e he => ?_⟩
    obtain ⟨-, -, -, hended, -, -, -, hcells, -, -⟩ := hw
    have hidle : u.inProgress = false := by
      have := hsettled
      simp only [State.settled, Bool.and_eq_true, Bool.not_eq_true'] at this
      exact this.1
    obtain ⟨hposts, hdraining⟩ := State.inProgress_eq_false.mp hidle
    rcases hcells e he with ⟨h, hm, hc⟩ | ⟨p, hmem, -⟩ | hsome
    · refine ⟨h, hm, hc, ?_⟩
      cases hph : h.phase with
      | standing d => exact ⟨d, rfl, hnotDue h hm d hph⟩
      | ended =>
        have hdrain : h.cell ∈ u.drains := (hended h.cell).mpr ⟨h, hm, rfl, hph⟩
        rw [hdrains] at hdrain
        exact absurd hdrain List.not_mem_nil
    · exact absurd (hposts ▸ hmem) List.not_mem_nil
    · exact absurd (hdraining.symm.trans hsome) (Option.some_ne_none _).symm
  · have hstands : s.resetStands = false := by rw [State.resetStands, hr]; rfl
    have hsettle := State.settle_of_settled hs
    subst hc
    have hdueHold := State.dueHold_eq_some hm rfl hph hdue hu
    show execHoldExpiry h.cell s = _
    simp only [execHoldExpiry, State.lapseHold, hsettle, hstands, Bool.false_eq_true, if_false, hdueHold]
    rw [State.expireHold_eq hm hph hu hv]

/-- Refutes O2: on an idle step of `closingWithoutClose` the lease is looked at while the forward post is still pending, in the state that would be settled then, in
which the session is gone. The waiting take ends after that, and with it the session's last request but the faulting one; so no clean teardown comes, and when the
clock counts the lease is due and has not been taken. -/
theorem not_everyStepGoesOn : ¬Obligations.EveryStepGoesOn := by
  rintro ⟨hidle, -, -, -⟩
  obtain ⟨cs, u, -, -, hquiet, hclock, hstep⟩ := (hidle closingWithoutClose rfl).1 rfl
  obtain ⟨hzero, hstays, hgone⟩ := closingWithoutClose_takeDue
  have hcount : closingWithoutClose.takeDue.count = u.count := Host.Outcome.next.inj ((step_idle rfl rfl).symm.trans hstep)
  have hu : closingWithoutClose.takeDue = u := State.eq_of_count_eq hcount (hzero.trans hclock.symm)
  have hlapse : u.lapseLease 0 = u := Host.Outcome.next.inj (hquiet (.leaseExpiry 0) (.leaseExpiry 0))
  rw [← hu] at hlapse
  exact hstays (hlapse ▸ hgone)

end Sys2Proof.Proofs
end

section
/-! PROOF. The statements about the receivers: single bytes, whole frames, and what is scanned again. -/

set_option Elab.async false

namespace Sys2Proof.Machine

variable {s : State} {l : Link} {gap : Bool} {b : Byte} {bytes rest : List Byte} {kind : Byte} {tag : Tag} {body : List Byte}

/-! ## A link unit with its receiver replaced -/

/-- The state with the receiver of a link replaced. -/
def State.receiving (s : State) (l : Link) (r : Receiver) : State := s.withLink l { s.link l with receiver := r }

@[simp] theorem State.receiving_link (s : State) (l : Link) (r : Receiver) : (s.receiving l r).link l = { s.link l with receiver := r } :=
  State.withLink_link_same ..

@[simp] theorem State.receiving_receiving (s : State) (l : Link) (r r' : Receiver) : (s.receiving l r).receiving l r' = s.receiving l r' := by
  rw [State.receiving, State.receiving_link, State.receiving, State.withLink_withLink, State.receiving]

theorem State.receiving_self {r : Receiver} (h : (s.link l).receiver = r) : s.receiving l r = s := by
  subst h
  have hl : setAt s.links l (s.link l) = s.links := setAt_getAt ..
  rw [State.receiving, State.withLink, hl]

/-- What is due depends on no receiver. -/
theorem State.receiving_settled (s : State) (l : Link) (r : Receiver) : (s.receiving l r).settled = s.settled := by
  have hclose : ∀ k, (s.receiving l r).closeDue k = s.closeDue k := fun k => State.closeDue_congr rfl <| by
    by_cases hk : k = l
    · subst hk; rw [State.receiving_link]
    · rw [State.receiving, State.withLink_link_ne s hk]
  simp only [State.settled, hclose]
  rfl

theorem LinkUnit.noted_receiver (u : LinkUnit) (k : CounterName) (r : Receiver) : ({ u with receiver := r } : LinkUnit).noted k = { u.noted k with receiver := r } :=
  rfl

theorem State.withLink_countError (s : State) (l : Link) (u : LinkUnit) (k : CounterName) : (s.withLink l u).countError l k = s.withLink l (u.noted k) := by
  rw [State.countError_eq_withLink, State.withLink_link_same, State.withLink_withLink]

theorem State.withLink_receiving (s : State) (l : Link) (u : LinkUnit) (r : Receiver) : (s.withLink l u).receiving l r = s.withLink l { u with receiver := r } := by
  rw [State.receiving, State.withLink_link_same, State.withLink_withLink]

theorem State.receiving_countError (s : State) (l : Link) (r : Receiver) (k : CounterName) :
    (s.receiving l r).countError l k = s.withLink l { (s.link l).noted k with receiver := r } := by
  rw [State.receiving, State.withLink_countError, LinkUnit.noted_receiver]

/-! ## Finding a frame -/

@[simp] theorem le_length (n : Nat) {w : Nat} (x : BitVec w) : (le n x).length = n := by simp [le]

/-- The bytes of a frame after its SYNC. -/
def frameTail (kind : Byte) (tag : Tag) (body : List Byte) : List Byte :=
  (countByte (body.length + 2) :: kind :: tag :: body) ++ le 2 (crc (countByte (body.length + 2) :: kind :: tag :: body))

theorem frameBytes_eq (kind : Byte) (tag : Tag) (body : List Byte) : frameBytes kind tag body = sync :: frameTail kind tag body := rfl

theorem frameTail_length (kind : Byte) (tag : Tag) (body : List Byte) : (frameTail kind tag body).length = body.length + 5 := by
  simp [frameTail]

theorem parseFrame_badLength {len : Byte} (h : len.toNat < 2 ∨ 62 < len.toNat) (more : List Byte) : parseFrame (len :: more) = .badLength :=
  if_pos h

theorem parseFrame_short {len : Byte} {more : List Byte} (h2 : 2 ≤ len.toNat) (h62 : len.toNat ≤ 62) (h : more.length < len.toNat + 2) :
    parseFrame (len :: more) = .incomplete :=
  (if_neg (by omega)).trans (if_pos h)

theorem parseFrame_badCrc {len : Byte} {more : List Byte} (h2 : 2 ≤ len.toNat) (h62 : len.toNat ≤ 62) (h : more.length = len.toNat + 2)
    (hcrc : le 2 (crc (len :: more.take len.toNat)) ≠ more.drop len.toNat) : parseFrame (len :: more) = .badCrc := by
  have htake : (more.drop len.toNat).take 2 = more.drop len.toNat := List.take_of_length_le (by simp [h])
  exact (if_neg (by omega)).trans ((if_neg (by omega)).trans (if_neg (by rw [htake]; exact hcrc)))

theorem countByte_toNat {n : Nat} (h : n ≤ 255) : (countByte n).toNat = n := by
  rw [countByte, BitVec.toNat_ofNat]
  exact Nat.mod_eq_of_lt (by omega)

/-- A frame is found whole, whatever follows it. -/
theorem parseFrame_frame (h : body.length ≤ 60) (rest : List Byte) :
    parseFrame (frameTail kind tag body ++ rest) = .frame kind tag body (frameTail kind tag body).length := by
  have hn : (countByte (body.length + 2)).toNat = body.length + 2 := countByte_toNat (by omega)
  generalize hcheck : le 2 (crc (countByte (body.length + 2) :: kind :: tag :: body)) = check
  have hlen : check.length = 2 := by rw [← hcheck, le_length]
  have htake : (kind :: tag :: (body ++ check ++ rest)).take (body.length + 2) = kind :: tag :: body := by simp
  have hdrop : ((kind :: tag :: (body ++ check ++ rest)).drop (body.length + 2)).take 2 = check := by
    rw [List.drop_succ_cons, List.drop_succ_cons, List.append_assoc, List.drop_left, List.take_left' hlen]
  have hmore : frameTail kind tag body ++ rest = countByte (body.length + 2) :: kind :: tag :: (body ++ check ++ rest) := by
    simp [frameTail, hcheck]
  rw [hmore, parseFrame, hn, if_neg (by omega), if_neg (by simp [hlen]; omega), htake, hdrop, if_pos hcheck, frameTail_length]
  rfl

/-- The bytes of a frame short of its last ones can still become it. -/
theorem parseFrame_prefix {got more : List Byte} (h : body.length ≤ 60) (hsplit : got ++ more = frameTail kind tag body) (hmore : more ≠ []) :
    parseFrame got = .incomplete := by
  cases got with
  | nil => rfl
  | cons len got =>
    obtain rfl : len = countByte (body.length + 2) := (List.cons.inj hsplit).1
    have hn : (countByte (body.length + 2)).toNat = body.length + 2 := countByte_toNat (by omega)
    have hlength := congrArg List.length hsplit
    rw [frameTail_length, List.length_append, List.length_cons] at hlength
    have hpos := List.length_pos_iff.mpr hmore
    exact parseFrame_short (by omega) (by omega) (by omega)

/-! ## Taking bytes from HUNT -/

/-- The receiver while `got` has come after the SYNC, the latest byte at `t`. -/
def partialOf (got : List Byte) (t : Clock) : Receiver := if got.isEmpty then .length t else .collect got t

theorem partialBytes_partialOf (got : List Byte) (t : Clock) : partialBytes (partialOf got t) = sync :: got := by
  cases got <;> rfl

theorem scanBytes_skip (gap : Bool) (l : Link) (front : List Byte) (rest : List Byte) (s : State) :
    scanBytes gap l front.length (front ++ rest) s = scanBytes gap l 0 rest s := by
  induction front with
  | nil => rfl
  | cons b front ih => exact ih

theorem scanBytes_noise_one (h : b ≠ sync) (rest : List Byte) :
    scanBytes gap l 0 (b :: rest) s = scanBytes gap l 0 rest (s.countError l .noise) := if_neg h

theorem scanBytes_partial (h : parseFrame rest = .incomplete) : scanBytes false l 0 (sync :: rest) s = s.receiving l (partialOf rest s.clock) := by
  simp only [scanBytes, if_true, h, Bool.false_eq_true, if_false]
  rfl

theorem scanBytes_gap (h : parseFrame rest = .incomplete) :
    scanBytes true l 0 (sync :: rest) s = scanBytes true l 0 rest (s.countError l .partialTimeouts) := by
  simp only [scanBytes, if_true, h]

theorem scanBytes_badLength (h : parseFrame rest = .badLength) :
    scanBytes gap l 0 (sync :: rest) s = scanBytes gap l 0 rest (s.countError l .lengthErrors) := by
  simp only [scanBytes, if_true, h]

theorem scanBytes_badCrc (h : parseFrame rest = .badCrc) :
    scanBytes gap l 0 (sync :: rest) s = scanBytes gap l 0 rest (s.countError l .crcErrors) := by
  simp only [scanBytes, if_true, h]

theorem scanBytes_frame (h : body.length ≤ 60) (rest : List Byte) :
    scanBytes gap l 0 (frameBytes kind tag body ++ rest) s = scanBytes gap l 0 rest (s.validFrame l ⟨kind, tag, body⟩) := by
  rw [frameBytes_eq, List.cons_append]
  simp only [scanBytes, if_true, parseFrame_frame h]
  exact scanBytes_skip ..

/-- A link unit after some bytes outside a frame. -/
def LinkUnit.noisy (u : LinkUnit) (n : Nat) : LinkUnit := Nat.repeat (LinkUnit.noted · .noise) n u

theorem LinkUnit.noted_noisy (u : LinkUnit) (n : Nat) : (u.noted .noise).noisy n = u.noisy (n + 1) := by
  induction n with
  | zero => rfl
  | succ n ih => exact congrArg (LinkUnit.noted · .noise) ih

theorem LinkUnit.noisy_receiver (u : LinkUnit) (n : Nat) (r : Receiver) : ({ u with receiver := r } : LinkUnit).noisy n = { u.noisy n with receiver := r } := by
  induction n with
  | zero => rfl
  | succ n ih => exact congrArg (LinkUnit.noted · .noise) ih

/-- Bytes outside a frame are noise. -/
theorem scanBytes_noise {junk : List Byte} (h : sync ∉ junk) (rest : List Byte) (s : State) :
    scanBytes gap l 0 (junk ++ rest) s = scanBytes gap l 0 rest (s.withLink l ((s.link l).noisy junk.length)) := by
  induction junk generalizing s with
  | nil =>
    have hself : s.withLink l (s.link l) = s := State.receiving_self rfl
    exact congrArg (scanBytes gap l 0 rest) hself.symm
  | cons b junk ih =>
    obtain ⟨hb, hjunk⟩ := not_or.mp (mt List.mem_cons.mpr h)
    rw [List.cons_append, scanBytes_noise_one (Ne.symm hb), ih hjunk, State.countError_eq_withLink, State.withLink_link_same, State.withLink_withLink,
      LinkUnit.noted_noisy, List.length_cons]

theorem scanBytes_noise_only {junk : List Byte} (h : sync ∉ junk) (s : State) :
    scanBytes gap l 0 junk s = s.withLink l ((s.link l).noisy junk.length) := by
  rw [← List.append_nil junk, scanBytes_noise h, List.append_nil]
  rfl

/-- What bytes with a frame among them come to. -/
theorem scanBytes_junk_frame {junk rest : List Byte} (hbody : body.length ≤ 60) (hjunk : sync ∉ junk) (hrest : sync ∉ rest) (s : State) :
    let v := (s.withLink l ((s.link l).noisy junk.length)).validFrame l ⟨kind, tag, body⟩
    scanBytes gap l 0 (junk ++ frameBytes kind tag body ++ rest) s = v.withLink l ((v.link l).noisy rest.length) := by
  dsimp only
  rw [List.append_assoc, scanBytes_noise hjunk, scanBytes_frame hbody, scanBytes_noise_only hrest]

/-! ## The two commands -/

theorem State.gapDue_length {t : Clock} (h : (s.link l).receiver = .length t) : s.gapDue l = reached s.clock (t + 3) := by
  simp only [State.gapDue, h]
  rfl

theorem State.gapDue_collect {t : Clock} {got : List Byte} (h : (s.link l).receiver = .collect got t) : s.gapDue l = reached s.clock (t + 3) := by
  simp only [State.gapDue, h]
  rfl

theorem State.gapDue_hunt (h : (s.link l).receiver = .hunt) : s.gapDue l = false := by
  simp only [State.gapDue, h]

theorem State.gapDue_iff : s.gapDue l = true ↔
    ∃ t, ((s.link l).receiver = .length t ∨ ∃ got, (s.link l).receiver = .collect got t) ∧ reached s.clock (t + 3) = true := by
  constructor
  · intro h
    cases hr : (s.link l).receiver with
    | hunt => rw [State.gapDue_hunt hr] at h; cases h
    | length t => exact ⟨t, .inl rfl, (State.gapDue_length hr).symm.trans h⟩
    | collect got t => exact ⟨t, .inr ⟨got, rfl⟩, (State.gapDue_collect hr).symm.trans h⟩
  · rintro ⟨t, hr | ⟨got, hr⟩, hreached⟩
    · exact (State.gapDue_length hr).trans hreached
    · exact (State.gapDue_collect hr).trans hreached

/-- A latest byte that has just come leaves the whole gap. -/
theorem reached_gap_now (now : Clock) : reached now (now + 3) = false := by
  unfold reached
  rw [decide_eq_false_iff_not]
  bv_omega

theorem exec_lineByteArrival (hrstn : s.rstn = true) (hs : s.settled = true) (hgap : s.gapDue l = false) (b : Byte) :
    exec (.lineByteArrival l b) s = .next (scanBytes false l 0 (partialBytes (s.link l).receiver ++ [b]) (s.receiving l .hunt)) := by
  show execLineByteArrival l b s = _
  simp only [execLineByteArrival, hrstn, if_true, State.settle_of_settled hs, hgap, Bool.false_eq_true, if_false]
  rfl

theorem exec_partialTimeout (hs : s.settled = true) (hgap : s.gapDue l = true) : exec (.partialTimeout l) s = .next (s.discardPartial l) := by
  show execPartialTimeout l s = _
  simp only [execPartialTimeout, State.lapsePartial, State.settle_of_settled hs, hgap, if_true]

theorem State.discardPartial_eq (s : State) (l : Link) :
    s.discardPartial l =
      scanBytes true l 0 ((partialBytes (s.link l).receiver).drop 1) (s.withLink l { (s.link l).noted .partialTimeouts with receiver := .hunt }) := by
  have hstate : (s.hunt l).countError l .partialTimeouts = s.withLink l { (s.link l).noted .partialTimeouts with receiver := .hunt } :=
    s.receiving_countError l .hunt .partialTimeouts
  rw [State.discardPartial, hstate]

/-- While the bytes of a frame come one by one, its receiver collects them. -/
theorem execAll_frameTail (hrstn : s.rstn = true) (hs : s.settled = true) (hbody : body.length ≤ 60) (bytes : List Byte) (hne : bytes ≠ []) {got : List Byte}
    (hsplit : got ++ bytes = frameTail kind tag body) :
    execAll (bytes.map (Instr.lineByteArrival l)) (s.receiving l (partialOf got s.clock)) = .next ((s.receiving l .hunt).validFrame l ⟨kind, tag, body⟩) := by
  induction bytes generalizing got with
  | nil => exact absurd rfl hne
  | cons b more ih =>
    have hgap : (s.receiving l (partialOf got s.clock)).gapDue l = false := by
      have hr : ((s.receiving l (partialOf got s.clock)).link l).receiver = partialOf got s.clock := by rw [State.receiving_link]
      cases got with
      | nil => exact (State.gapDue_length hr).trans (reached_gap_now s.clock)
      | cons len got => exact (State.gapDue_collect hr).trans (reached_gap_now s.clock)
    have hexec := exec_lineByteArrival (s := s.receiving l (partialOf got s.clock)) hrstn ((s.receiving_settled ..).trans hs) hgap b
    rw [State.receiving_link, State.receiving_receiving, partialBytes_partialOf, List.cons_append] at hexec
    rw [List.map_cons, execAll, hexec]
    dsimp only
    cases more with
    | nil =>
      have hframe := scanBytes_frame (gap := false) (l := l) (s := s.receiving l .hunt) (kind := kind) (tag := tag) hbody []
      rw [List.append_nil, frameBytes_eq, ← hsplit] at hframe
      rw [hframe]
      rfl
    | cons b' more =>
      have hsplit' : (got ++ [b]) ++ b' :: more = frameTail kind tag body := by rw [List.append_assoc]; exact hsplit
      rw [scanBytes_partial (parseFrame_prefix hbody hsplit' (List.cons_ne_nil _ _)), State.receiving_receiving]
      exact ih (List.cons_ne_nil _ _) hsplit'

end Sys2Proof.Machine

namespace Sys2Proof.Proofs

open Sys2Proof.Machine

/-- Settles O7: one byte, from HUNT, in LENGTH, and in COLLECT before the last. -/
theorem receiverTakesBytesByState : Obligations.ReceiverTakesBytesByState := by
  intro s l b hrstn hs
  refine ⟨fun hr => ?_, fun t hr hgap => ?_, fun t len got hr hgap h2 h62 hshort => ?_⟩
  · rw [exec_lineByteArrival hrstn hs (State.gapDue_hunt hr), hr, State.receiving_self hr]
    by_cases hb : b = 0xA5
    · subst hb
      rw [if_pos rfl]
      exact congrArg Host.Outcome.next (scanBytes_partial (rest := []) rfl)
    · rw [if_neg hb]
      exact congrArg Host.Outcome.next (scanBytes_noise_one hb [])
  · rw [exec_lineByteArrival hrstn hs ((State.gapDue_length hr).trans hgap), hr]
    refine ⟨fun h2 h62 => ?_, fun hb => ?_, fun hlen hb => ?_⟩
    · have hscan := scanBytes_partial (s := s.receiving l .hunt) (l := l) (parseFrame_short h2 h62 (more := []) (by simp))
      exact congrArg Host.Outcome.next (hscan.trans (State.receiving_receiving ..))
    · subst hb
      have hscan := scanBytes_badLength (gap := false) (s := s.receiving l .hunt) (l := l) (parseFrame_badLength (len := 0xA5) (by decide) [])
      refine congrArg Host.Outcome.next (hscan.trans ((scanBytes_partial (rest := []) rfl).trans ?_))
      rw [State.receiving_countError, State.withLink_receiving]
      rfl
    · have hscan := scanBytes_badLength (gap := false) (s := s.receiving l .hunt) (l := l) (parseFrame_badLength hlen [])
      refine congrArg Host.Outcome.next (hscan.trans ((scanBytes_noise_one hb []).trans ?_))
      rw [State.receiving_countError, State.withLink_countError]
      rfl
  · rw [exec_lineByteArrival hrstn hs ((State.gapDue_collect hr).trans hgap), hr]
    have hscan := scanBytes_partial (s := s.receiving l .hunt) (l := l) (parseFrame_short h2 h62 (more := got ++ [b]) (by simpa using hshort))
    exact congrArg Host.Outcome.next (hscan.trans (State.receiving_receiving ..))

/-- Settles O8: the SYNC begins a partial frame, which the other bytes complete. -/
theorem encodedFrameIsReceived : Obligations.EncodedFrameIsReceived := by
  intro s l kind tag body hrstn hs hr hbody
  have hsync := exec_lineByteArrival hrstn hs (State.gapDue_hunt hr) sync
  rw [hr, State.receiving_self hr] at hsync
  have hfirst : exec (.lineByteArrival l sync) s = .next (s.receiving l (partialOf [] s.clock)) := hsync.trans
    (congrArg Host.Outcome.next (scanBytes_partial (rest := []) rfl))
  have hrest := execAll_frameTail (l := l) hrstn hs hbody (frameTail kind tag body) (List.cons_ne_nil _ _) (got := []) rfl
  rw [State.receiving_self hr] at hrest
  rw [frameBytes_eq, List.map_cons, execAll, hfirst]
  exact hrest

end Sys2Proof.Proofs
end

section
/-! PROOF. What the bytes of a discarded frame come to when they are scanned again. -/

set_option Elab.async false

namespace Sys2Proof.Machine

variable {s : State} {l : Link} {b : Byte}

/-! ## No frame moves its own receiver -/

theorem routeArrived_receiver (l : Link) (xs : List Waiting) (s : State) :
    ((routeArrived l xs s).link l).receiver = (s.link l).receiver := by
  have hdropped : ∀ (s : State) rest, ((s.updLink l fun u => { u with inbox := rest }).link l).receiver = (s.link l).receiver := fun s rest => by
    rw [State.updLink_link_same]
  induction xs generalizing s with
  | nil => rfl
  | cons x rest ih =>
    unfold routeArrived
    split
    · rfl
    · next d _ =>
      have hkept : ∀ t : State, ((t.handOn l x d).link l).receiver = (t.link l).receiver := fun t => by cases d <;> rfl
      rw [ih, hkept, hdropped]
    · rw [ih, State.answer, State.placeReply_link_same]
      exact hdropped ..

theorem State.checkAccepted_receiver (s : State) (l : Link) (f : RawFrame) : ((s.checkAccepted l f).link l).receiver = (s.link l).receiver := by
  unfold State.checkAccepted
  split
  · unfold State.route
    split
    · rw [State.updLink_link_same]
    · rw [routeArrived_receiver, State.updLink_link_same]
  · unfold State.refuseForm
    dsimp only
    rw [State.placeReply_link_same]
    split <;> rfl

theorem State.windowFrame_receiver (s : State) (l : Link) (f : RawFrame) : ((s.windowFrame l f).link l).receiver = (s.link l).receiver := by
  have hnoted : ∀ k, ((s.countError l k).link l).receiver = (s.link l).receiver := fun k => by
    rw [State.countError_eq_withLink, State.withLink_link_same]
    rfl
  unfold State.windowFrame
  dsimp only
  split
  · exact hnoted _
  · split
    · exact hnoted _
    · split
      · rw [State.updLink_link_same, State.updLink_link_same]
      · rw [State.checkAccepted_receiver, State.updLink_link_same]

theorem State.doResync_receiver (s : State) (l : Link) : ((s.doResync l).link l).receiver = (s.link l).receiver := by
  have hcleared : ∀ (t : State) (k : LinkCounters) (r : PendingReports),
      (((t.clearLink l).updLink l fun u => { u with counters := k, reports := r }).link l).receiver = (t.link l).receiver := fun t k r => by
    rw [State.updLink_link_same, State.clearLink, State.updLink_link_same]
    rfl
  unfold State.doResync
  dsimp only
  rw [hcleared]
  split
  · obtain ⟨_, _, h⟩ := s.teardownEffects_link l l
    rw [h]
  · rfl

theorem State.validFrame_receiver (s : State) (l : Link) (f : RawFrame) : ((s.validFrame l f).link l).receiver = (s.link l).receiver := by
  have hrenewed : (s.renewLease l).link l = s.link l := State.link_congr (by rw [State.renewLease_frame]) l
  unfold State.validFrame
  dsimp only
  split
  · unfold State.takeResync
    split
    · rw [State.updLink_link_same, hrenewed]
    · rw [State.doResync_receiver, hrenewed]
  · rw [State.windowFrame_receiver, hrenewed]

/-- After a gap discard nothing that is scanned again leaves a partial frame. -/
theorem scanBytes_gap_receiver (l : Link) (bytes : List Byte) (skip : Nat) (s : State) :
    ((scanBytes true l skip bytes s).link l).receiver = (s.link l).receiver := by
  induction bytes generalizing skip s with
  | nil => unfold scanBytes; rfl
  | cons b rest ih =>
    have again : ∀ k, ((scanBytes true l 0 rest (s.countError l k)).link l).receiver = (s.link l).receiver := fun k => by
      rw [ih, State.countError_eq_withLink, State.withLink_link_same]
      rfl
    cases skip with
    | succ skip => exact ih skip s
    | zero =>
      unfold scanBytes
      split
      · split
        · exact again _
        · exact again _
        · exact again _
        · rw [ih, State.validFrame_receiver]
      · exact again _

theorem State.discardPartial_receiver (s : State) (l : Link) : ((s.discardPartial l).link l).receiver = .hunt := by
  rw [State.discardPartial_eq, scanBytes_gap_receiver, State.withLink_link_same]

theorem State.ready_of_settled (h : s.settled = true) : s.ready := by
  simp only [State.settled, Bool.and_eq_true, Bool.not_eq_true'] at h
  exact .inr h.1

/-! ## The bytes after a discarded SYNC -/

/-- The link unit after a discard of the given kind and some bytes of noise. -/
def LinkUnit.discarded (u : LinkUnit) (k : CounterName) (n : Nat) : LinkUnit := { (u.noted k).noisy n with receiver := .hunt }

/-- Noise after a discard. -/
theorem State.withLink_noisy (s : State) (l : Link) (k : CounterName) (n : Nat) :
    (s.withLink l ((s.link l).discarded k 0)).withLink l (((s.withLink l ((s.link l).discarded k 0)).link l).noisy n) =
      s.withLink l ((s.link l).discarded k n) := by
  rw [State.withLink_link_same, State.withLink_withLink, LinkUnit.discarded, LinkUnit.noisy_receiver]
  rfl

section
variable {gap : Bool} {k : CounterName} {junk rest : List Byte} (hjunk : sync ∉ junk)
include hjunk

theorem scanBytes_discarded (rest : List Byte) :
    scanBytes gap l 0 (junk ++ rest) (s.withLink l ((s.link l).discarded k 0)) =
      scanBytes gap l 0 rest (s.withLink l ((s.link l).discarded k junk.length)) := by
  rw [scanBytes_noise hjunk, State.withLink_noisy]

theorem scanBytes_discarded_only :
    scanBytes gap l 0 junk (s.withLink l ((s.link l).discarded k 0)) = s.withLink l ((s.link l).discarded k junk.length) := by
  rw [scanBytes_noise_only hjunk, State.withLink_noisy]

theorem scanBytes_discarded_frame {kind : Byte} {tag : Tag} {body : List Byte} (hbody : body.length ≤ 60) (hrest : sync ∉ rest) :
    let v := (s.withLink l ((s.link l).discarded k junk.length)).validFrame l ⟨kind, tag, body⟩
    scanBytes gap l 0 (junk ++ frameBytes kind tag body ++ rest) (s.withLink l ((s.link l).discarded k 0)) =
      v.withLink l ((v.link l).noisy rest.length) := by
  dsimp only
  rw [List.append_assoc, scanBytes_discarded hjunk, scanBytes_frame hbody, scanBytes_noise_only hrest]

/-- A SYNC that the bytes do not complete begins a partial frame. -/
theorem scanBytes_discarded_partial (h : parseFrame rest = .incomplete) :
    scanBytes false l 0 (junk ++ sync :: rest) (s.withLink l ((s.link l).discarded k 0)) =
      s.withLink l { (s.link l).discarded k junk.length with receiver := partialOf rest s.clock } := by
  rw [scanBytes_discarded hjunk, scanBytes_partial h, State.withLink_receiving]
  rfl

/-- After a gap discard it is one more partial timeout, and the bytes after it are noise. -/
theorem scanBytes_discarded_timeout (h : parseFrame rest = .incomplete) (hrest : sync ∉ rest) :
    scanBytes true l 0 (junk ++ sync :: rest) (s.withLink l ((s.link l).discarded k 0)) =
      s.withLink l ((((s.link l).discarded k junk.length).noted .partialTimeouts).noisy rest.length) := by
  rw [scanBytes_discarded hjunk, scanBytes_gap h, State.withLink_countError, scanBytes_noise_only hrest, State.withLink_link_same, State.withLink_withLink]

end

/-- The last byte of a frame whose CRC fails. -/
theorem exec_lineByteArrival_badCrc {t : Clock} {len : Byte} {got : List Byte} (hrstn : s.rstn = true) (hs : s.settled = true)
    (hr : (s.link l).receiver = .collect (len :: got) t) (hgap : reached s.clock (t + 3) = false) (h2 : 2 ≤ len.toNat) (h62 : len.toNat ≤ 62)
    (hlen : got.length + 1 = len.toNat + 2) (hcrc : le 2 (crc (len :: (got ++ [b]).take len.toNat)) ≠ (got ++ [b]).drop len.toNat) :
    exec (.lineByteArrival l b) s =
      .next (scanBytes false l 0 (len :: (got ++ [b])) (s.withLink l ((s.link l).discarded .crcErrors 0))) := by
  rw [exec_lineByteArrival hrstn hs ((State.gapDue_collect hr).trans hgap), hr]
  have hbad := parseFrame_badCrc h2 h62 (more := got ++ [b]) (by simpa using hlen) hcrc
  refine congrArg Host.Outcome.next ((scanBytes_badCrc hbad).trans ?_)
  rw [State.receiving_countError]
  rfl

/-- The bytes of a partial frame whose gap has run out. -/
theorem exec_partialTimeout_collect {t : Clock} {got : List Byte} (hs : s.settled = true) (hr : (s.link l).receiver = .collect got t)
    (hreached : reached s.clock (t + 3) = true) :
    exec (.partialTimeout l) s = .next (scanBytes true l 0 got (s.withLink l ((s.link l).discarded .partialTimeouts 0))) := by
  rw [exec_partialTimeout hs ((State.gapDue_collect hr).trans hreached), State.discardPartial_eq, hr]
  rfl

end Sys2Proof.Machine

namespace Sys2Proof.Proofs

open Sys2Proof.Machine

/-- Settles O9: both discards leave the bytes after the SYNC to be scanned from HUNT; the scan meets noise, a frame or a SYNC. -/
theorem discardedFrameIsRescanned : Obligations.DiscardedFrameIsRescanned := by
  refine ⟨fun s l t len b got hrstn hs hr hgap h2 h62 hlen hcrc => ?_, fun s l t hs hreached => ⟨fun hr => ?_, fun got hr => ?_⟩,
    fun s u l b hrstn hs hgap hu hset => ?_, fun s l => State.gapDue_iff⟩
  · have hexec := exec_lineByteArrival_badCrc hrstn hs hr hgap h2 h62 hlen hcrc
    dsimp only
    rw [hexec]
    refine ⟨fun hjunk => ?_, fun junk kind tag body rest hsplit hbody hjunk hrest => ?_, fun junk hsplit hjunk => ?_,
      fun junk n more hsplit hjunk h2 h62 hshort => ?_⟩
    · exact congrArg Host.Outcome.next (scanBytes_discarded_only hjunk)
    · rw [hsplit]
      exact congrArg Host.Outcome.next (scanBytes_discarded_frame hjunk hbody hrest)
    · rw [hsplit]
      exact congrArg Host.Outcome.next (scanBytes_discarded_partial hjunk (rest := []) rfl)
    · rw [hsplit]
      exact congrArg Host.Outcome.next (scanBytes_discarded_partial hjunk (parseFrame_short h2 h62 hshort))
  · rw [exec_partialTimeout hs ((State.gapDue_length hr).trans hreached), State.discardPartial_eq, hr]
    rfl
  · have hexec := exec_partialTimeout_collect hs hr hreached
    refine ⟨⟨_, exec_partialTimeout hs ((State.gapDue_collect hr).trans hreached), s.discardPartial_receiver l⟩, ?_⟩
    rw [hexec]
    refine ⟨fun hjunk => ?_, fun junk kind tag body rest hsplit hbody hjunk hrest => ?_, fun junk more hsplit hjunk hmore hshort => ?_⟩
    · exact congrArg Host.Outcome.next (scanBytes_discarded_only hjunk)
    · rw [hsplit]
      exact congrArg Host.Outcome.next (scanBytes_discarded_frame hjunk hbody hrest)
    · have hparse : parseFrame more = .incomplete := by
        rcases hshort with rfl | ⟨n, some, rfl, h2, h62, hless⟩
        · rfl
        · exact parseFrame_short h2 h62 hless
      rw [hsplit]
      exact congrArg Host.Outcome.next (scanBytes_discarded_timeout hjunk hparse hmore)
  · obtain rfl : s.discardPartial l = u := Host.Outcome.next.inj ((exec_partialTimeout hs hgap).symm.trans hu)
    have hrstn' : (s.discardPartial l).rstn = true := (State.discardPartial_moves (State.ready_of_settled hs) l).pins.2.1.trans hrstn
    have hhunt := State.gapDue_hunt (s.discardPartial_receiver l)
    show execLineByteArrival l b s = execLineByteArrival l b (s.discardPartial l)
    simp only [execLineByteArrival, hrstn, hrstn', if_true, State.settle_of_settled hs, State.settle_of_settled hset, hgap, hhunt, Bool.false_eq_true,
      if_false]

end Sys2Proof.Proofs
end

section
/-! PROOF. The statements about the bodies of requests: reading back what is laid out, and the checks in their order. -/

set_option Elab.async false

namespace Sys2Proof.Machine

variable {kind b : Byte} {body xs : List Byte} {i offset low high : Nat}

/-! ## Fields laid out and read back -/

theorem le_succ (n : Nat) {w : Nat} (x : BitVec w) : le (n + 1) x = x.setWidth 8 :: le n (x >>> 8) := by
  simp only [le, List.range_succ_eq_map, List.map_cons, List.map_map]
  congr 1
  refine List.map_congr_left fun i _ => ?_
  simp only [Function.comp_apply, ← BitVec.shiftRight_add]
  congr 2
  omega

theorem fromLe_le (n : Nat) {w : Nat} (x : BitVec w) : fromLe (le n x) = x.toNat % 256 ^ n := by
  induction n generalizing x with
  | zero => simp [le, fromLe, Nat.mod_one]
  | succ n ih =>
    have hbyte : (x.setWidth 8).toNat = x.toNat % 256 := BitVec.toNat_setWidth ..
    have hrest : (x >>> 8).toNat = x.toNat / 256 := by rw [BitVec.toNat_ushiftRight, Nat.shiftRight_eq_div_pow]
    rw [le_succ, fromLe, ih, hbyte, hrest, Nat.pow_succ', Nat.mod_mul]

@[simp] theorem halfAt_le (x : Half) (rest : List Byte) : halfAt (le 2 x ++ rest) 0 = x := by
  rw [halfAt, List.drop_zero, List.take_left' (le_length 2 x), fromLe_le]
  exact BitVec.eq_of_toNat_eq (by rw [BitVec.toNat_ofNat]; omega)

@[simp] theorem halfAt_le_only (x : Half) : halfAt (le 2 x) 0 = x := by
  rw [← List.append_nil (le 2 x), halfAt_le]

@[simp] theorem quadAt_le (x : Quad) : quadAt (le 8 x) 0 = x := by
  rw [quadAt, List.drop_zero, List.take_of_length_le (le_length 8 x).le, fromLe_le]
  exact BitVec.eq_of_toNat_eq (by rw [BitVec.toNat_ofNat]; omega)

@[simp] theorem byteAt_cons_zero (b : Byte) (xs : List Byte) : byteAt (b :: xs) 0 = b := rfl

@[simp] theorem byteAt_cons_succ (b : Byte) (xs : List Byte) (i : Nat) : byteAt (b :: xs) (i + 1) = byteAt xs i := rfl

@[simp] theorem halfAt_cons_succ (b : Byte) (xs : List Byte) (i : Nat) : halfAt (b :: xs) (i + 1) = halfAt xs i := rfl

@[simp] theorem byteAt_half (x : Half) (xs : List Byte) (i : Nat) : byteAt (le 2 x ++ xs) (i + 2) = byteAt xs i := rfl

@[simp] theorem halfAt_half (x : Half) (xs : List Byte) (i : Nat) : halfAt (le 2 x ++ xs) (i + 2) = halfAt xs i := rfl

@[simp] theorem quadAt_half (x : Half) (xs : List Byte) (i : Nat) : quadAt (le 2 x ++ xs) (i + 2) = quadAt xs i := rfl

theorem flagAt_flagByte {v : Bool} (h : byteAt body i = flagByte v) : flagAt body i = .ok v := by
  cases v <;> simp [flagAt, h, flagByte]

theorem cellClassAt_byte {v : CellClass} (h : byteAt body i = cellClassByte v) : cellClassAt body i = .ok v := by
  cases v <;> simp [cellClassAt, h, cellClassByte]

theorem overflowAt_byte {v : Overflow} (h : byteAt body i = overflowByte v) : overflowAt body i = .ok v := by
  cases v <;> simp [overflowAt, h, overflowByte]

theorem faultClassAt_byte {v : FaultClass} (h : byteAt body i = classByte v) : faultClassAt body i = .ok v := by
  cases v <;> simp [faultClassAt, h, classByte, classIndex]

theorem policyAt_byte {v : FaultPolicy} (h : byteAt body i = policyByte v) : policyAt body i = .ok v := by
  cases v <;> simp [policyAt, h, policyByte]

theorem scopeAt_byte {v : Scope} (h : byteAt body i = scopeByte v) : scopeAt body i = .ok v := by
  cases v <;> simp [scopeAt, h, scopeByte]

theorem checkBody_inRange (hr : bodyRange kind = some (low, high)) (hl : low ≤ body.length) (hh : body.length ≤ high) :
    checkBody kind body = readFields kind body := by
  simp only [checkBody, hr]
  exact if_pos ⟨hl, hh⟩

/-- The body of a well-formed request has a length of its kind. -/
theorem checkBody_requestBody {r : Request} (h : r.wellFormed = true) :
    checkBody (requestKind r) (requestBody r) = readFields (requestKind r) (requestBody r) := by
  have hlen : ∃ low high, bodyRange (requestKind r) = some (low, high) ∧ low ≤ (requestBody r).length ∧ (requestBody r).length ≤ high := by
    cases r with
    | ping echo => exact ⟨0, 8, rfl, Nat.zero_le _, of_decide_eq_true h⟩
    | post queue urgent payload => exact ⟨2, 50, rfl, by simp [requestBody], Nat.add_le_add_right (of_decide_eq_true h) 2⟩
    | _ => exact ⟨_, _, rfl, by simp [requestBody], by simp [requestBody]⟩
  obtain ⟨low, high, hr, hl, hh⟩ := hlen
  exact checkBody_inRange hr hl hh

/-- The owner host id of a well-formed SET_CELL_CLASS is not a reserved field that is set. -/
theorem ownerReservedOk_requestBody {cell owner : Half} {cls : CellClass} (h : Request.wellFormed (.setCellClass cell cls owner) = true) :
    ownerReservedOk (requestBody (.setCellClass cell cls owner)) = true := by
  have hcls : byteAt (requestBody (.setCellClass cell cls owner)) 2 = cellClassByte cls := rfl
  have howner : halfAt (requestBody (.setCellClass cell cls owner)) 3 = owner := halfAt_le_only owner
  rw [ownerReservedOk, hcls, howner]
  cases cls with
  | owned => rfl
  | openAll => simpa [cellClassByte, Request.wellFormed] using h
  | adminWrite => simpa [cellClassByte, Request.wellFormed] using h

theorem readFields_requestBody {r : Request} (h : r.wellFormed = true) : readFields (requestKind r) (requestBody r) = .ok r := by
  cases r with
  | openSession hostId eligible period =>
    show (flagAt _ 2 >>= fun v => pure (Request.openSession _ v _)) = _
    rw [flagAt_flagByte (v := eligible) rfl]
    simp [requestBody]
  | setCellClass cell cls owner =>
    show (if ownerReservedOk _ then cellClassAt _ 2 >>= fun v => pure (Request.setCellClass _ v _) else _) = _
    rw [if_pos (ownerReservedOk_requestBody h), cellClassAt_byte (v := cls) rfl]
    simp [requestBody]
  | createQueue queue label capacity overflow mask intended notify =>
    show (overflowAt _ 4 >>= fun v => flagAt _ 8 >>= fun n => pure (Request.createQueue _ _ _ v _ _ n)) = _
    rw [overflowAt_byte (v := overflow) rfl, flagAt_flagByte (v := notify) rfl]
    simp [requestBody]
    rfl
  | post queue urgent payload =>
    show (flagAt _ 1 >>= fun v => pure (Request.post _ v _)) = _
    rw [flagAt_flagByte (v := urgent) rfl]
    rfl
  | setPolicy cls policy =>
    show (faultClassAt _ 0 >>= fun c => policyAt _ 1 >>= fun p => pure (Request.setPolicy c p)) = _
    rw [faultClassAt_byte (v := cls) rfl, policyAt_byte (v := policy) rfl]
    rfl
  | hubReset scope =>
    show (scopeAt _ 0 >>= fun v => pure (Request.hubReset v)) = _
    rw [scopeAt_byte (v := scope) rfl]
    rfl
  | _ => simp [requestKind, requestBody, readFields]

end Sys2Proof.Machine

namespace Sys2Proof.Proofs

open Sys2Proof.Machine

/-- Settles O12: the length is one of the kind's, and every field is read where it was laid. -/
theorem requestBodyIsReadBack : Obligations.RequestBodyIsReadBack := fun _ h => (checkBody_requestBody h).trans (readFields_requestBody h)

end Sys2Proof.Proofs
end

section
/-! PROOF. The body checks: what is read, or the first check that fails. -/

set_option Elab.async false

namespace Sys2Proof.Machine

variable {kind : Byte} {body : List Byte} {offset low high : Nat}

/-! ## Kinds and lengths (R165, R167) -/

/-- The kinds with the range of their lengths. -/
def bodyLengths : List (Byte × Nat × Nat) :=
  [(0x01, 5, 5), (0x02, 0, 0), (0x03, 0, 8), (0x04, 0, 0), (0x10, 2, 2), (0x11, 10, 10), (0x12, 10, 10), (0x13, 5, 5),
    (0x18, 2, 2), (0x19, 10, 10), (0x1A, 0, 0), (0x1C, 2, 2), (0x1D, 2, 2), (0x20, 9, 9), (0x21, 1, 1), (0x22, 1, 1),
    (0x23, 1, 1), (0x24, 2, 50), (0x25, 3, 3), (0x26, 1, 1), (0x27, 1, 1), (0x30, 2, 2), (0x31, 0, 0), (0x32, 1, 1),
    (0x33, 1, 1), (0x34, 4, 4), (0x35, 1, 1), (0x36, 0, 0)]

/-- The enumerated fields: the kind, the offset, the least and the largest value. -/
def enumFields : List (Byte × Nat × Nat × Nat) :=
  [(0x01, 2, 0, 1), (0x13, 2, 0, 2), (0x20, 4, 0, 1), (0x20, 8, 0, 1), (0x24, 1, 0, 1), (0x30, 0, 1, 6), (0x30, 1, 0, 2), (0x35, 0, 0, 1)]

theorem bodyRange_of_mem : ∀ e ∈ bodyLengths, bodyRange e.1 = some e.2 := by decide

theorem bodyRange_of_not_mem (h : ∀ e ∈ bodyLengths, e.1 ≠ kind) : bodyRange kind = none := by
  have hlisted : ∀ k : Byte, bodyRange k = none ∨ ∃ e ∈ bodyLengths, e.1 = k := by decide +kernel
  exact (hlisted kind).resolve_right fun ⟨e, he, hk⟩ => h e he hk

theorem checkBody_unknown (h : bodyRange kind = none) : checkBody kind body = .error ⟨.unknownKind, 0, kind.setWidth 32⟩ := by
  simp only [checkBody, h, formFault, BitVec.ofNat_toNat]

theorem checkBody_outOfRange (hr : bodyRange kind = some (low, high)) (h : body.length < low ∨ high < body.length) :
    checkBody kind body = .error ⟨.bodyLength, 0, BitVec.ofNat 32 body.length⟩ := by
  simp only [checkBody, hr]
  exact if_neg (by omega)

/-! ## Enumerated fields (R168) -/

/-- The byte at an offset is in a range. -/
def InSet (body : List Byte) (offset low high : Nat) : Prop := low ≤ (byteAt body offset).toNat ∧ (byteAt body offset).toNat ≤ high

/-- A field is read when its byte is in the set of its values, and is a fault otherwise. -/
structure FieldRead {α : Type} (read : Except HubFault α) (body : List Byte) (offset low high : Nat) : Prop where
  ok : InSet body offset low high → ∃ v, read = .ok v
  error : ¬InSet body offset low high → read = .error ⟨.enumValue, 0, BitVec.ofNat 32 offset⟩

theorem flagAt_read (body : List Byte) (i : Nat) : FieldRead (flagAt body i) body i 0 1 := by
  refine ⟨fun ⟨_, h1⟩ => ?_, fun h => ?_⟩ <;> unfold flagAt
  · interval_cases (byteAt body i).toNat <;> exact ⟨_, rfl⟩
  · unfold InSet at h
    split
    · omega
    · omega
    · rfl

theorem cellClassAt_read (body : List Byte) (i : Nat) : FieldRead (cellClassAt body i) body i 0 2 := by
  refine ⟨fun ⟨_, h1⟩ => ?_, fun h => ?_⟩ <;> unfold cellClassAt
  · interval_cases (byteAt body i).toNat <;> exact ⟨_, rfl⟩
  · unfold InSet at h
    split
    · omega
    · omega
    · omega
    · rfl

theorem overflowAt_read (body : List Byte) (i : Nat) : FieldRead (overflowAt body i) body i 0 1 := by
  refine ⟨fun ⟨_, h1⟩ => ?_, fun h => ?_⟩ <;> unfold overflowAt
  · interval_cases (byteAt body i).toNat <;> exact ⟨_, rfl⟩
  · unfold InSet at h
    split
    · omega
    · omega
    · rfl

theorem faultClassAt_read (body : List Byte) (i : Nat) : FieldRead (faultClassAt body i) body i 1 6 := by
  refine ⟨fun ⟨h0, h1⟩ => ?_, fun h => ?_⟩ <;> unfold faultClassAt
  · interval_cases (byteAt body i).toNat <;> exact ⟨_, rfl⟩
  · unfold InSet at h
    split
    · omega
    · omega
    · omega
    · omega
    · omega
    · omega
    · rfl

theorem policyAt_read (body : List Byte) (i : Nat) : FieldRead (policyAt body i) body i 0 2 := by
  refine ⟨fun ⟨_, h1⟩ => ?_, fun h => ?_⟩ <;> unfold policyAt
  · interval_cases (byteAt body i).toNat <;> exact ⟨_, rfl⟩
  · unfold InSet at h
    split
    · omega
    · omega
    · omega
    · rfl

theorem scopeAt_read (body : List Byte) (i : Nat) : FieldRead (scopeAt body i) body i 0 1 := by
  refine ⟨fun ⟨_, h1⟩ => ?_, fun h => ?_⟩ <;> unfold scopeAt
  · interval_cases (byteAt body i).toNat <;> exact ⟨_, rfl⟩
  · unfold InSet at h
    split
    · omega
    · omega
    · rfl

/-! ## The kinds that have such fields -/

theorem readFields_openSession (body : List Byte) :
    readFields 0x01 body = flagAt body 2 >>= fun v => pure (.openSession (halfAt body 0) v (halfAt body 3)) := rfl

theorem readFields_setCellClass (h : ownerReservedOk body = true) :
    readFields 0x13 body = cellClassAt body 2 >>= fun v => pure (.setCellClass (halfAt body 0) v (halfAt body 3)) := if_pos h

theorem readFields_createQueue (body : List Byte) :
    readFields 0x20 body = overflowAt body 4 >>= fun v => flagAt body 8 >>= fun n =>
      pure (.createQueue (byteAt body 0) (halfAt body 1) (byteAt body 3) v (byteAt body 5) (halfAt body 6) n) := rfl

theorem readFields_post (body : List Byte) :
    readFields 0x24 body = flagAt body 1 >>= fun v => pure (.post (byteAt body 0) v (body.drop 2)) := rfl

theorem readFields_setPolicy (body : List Byte) :
    readFields 0x30 body = faultClassAt body 0 >>= fun c => policyAt body 1 >>= fun p => pure (.setPolicy c p) := rfl

theorem readFields_hubReset (body : List Byte) : readFields 0x35 body = scopeAt body 0 >>= fun v => pure (.hubReset v) := rfl

/-- The owner host id of SET_CELL_CLASS is reserved with OPEN and ADMIN_WRITE, and must be 0 then. -/
theorem ownerReservedOk_iff (h : body.length = 5) : ownerReservedOk body = false ↔ (byteAt body 2).toNat ≤ 1 ∧ body.drop 3 ≠ [0, 0] := by
  obtain ⟨x, y, hxy⟩ : ∃ x y, body.drop 3 = [x, y] := List.length_eq_two.mp (by simp [h])
  have hx := x.isLt
  have hy := y.isLt
  have hzero : halfAt body 3 = 0 ↔ body.drop 3 = [0, 0] := by
    rw [halfAt, hxy, List.take_of_length_le (by simp)]
    constructor
    · intro h0
      have hsum : (x.toNat + 256 * (y.toNat + 256 * 0)) % 2 ^ 16 = 0 := (BitVec.toNat_ofNat ..).symm.trans (congrArg BitVec.toNat h0)
      have hx0 : x = 0 := BitVec.eq_of_toNat_eq (show x.toNat = 0 by omega)
      have hy0 : y = 0 := BitVec.eq_of_toNat_eq (show y.toNat = 0 by omega)
      rw [hx0, hy0]
    · intro h0
      obtain ⟨rfl, hy'⟩ := List.cons.inj h0
      obtain ⟨rfl, -⟩ := List.cons.inj hy'
      rfl
  rw [ownerReservedOk, Bool.or_eq_false_iff, decide_eq_false_iff_not, decide_eq_false_iff_not, hzero]
  exact and_congr_left' (by omega)

/-- The owner field of the body is reserved and set. -/
def OwnerSet (kind : Byte) (body : List Byte) : Prop := kind = 0x13 ∧ (byteAt body 2).toNat ≤ 1 ∧ body.drop 3 ≠ [0, 0]

theorem readFields_ownerSet (hl : body.length = 5) (h : OwnerSet 0x13 body) : readFields 0x13 body = .error ⟨.reservedSet, 0, 3⟩ :=
  if_neg (by rw [(ownerReservedOk_iff hl).mpr h.2]; exact Bool.false_ne_true)

theorem ownerReservedOk_of_not (hl : body.length = 5) (h : ¬OwnerSet 0x13 body) : ownerReservedOk body = true := by
  rw [← Bool.not_eq_false]
  exact fun hf => h ⟨rfl, (ownerReservedOk_iff hl).mp hf⟩

/-- The first enumerated field out of its set is the fault. -/
theorem readFields_enumValue (hl : kind = 0x13 → body.length = 5) (ho : ¬OwnerSet kind body) (hmem : (kind, offset, low, high) ∈ enumFields)
    (hout : ¬InSet body offset low high)
    (hbefore : ∀ offset' low' high', (kind, offset', low', high') ∈ enumFields → offset' < offset → InSet body offset' low' high') :
    readFields kind body = .error ⟨.enumValue, 0, BitVec.ofNat 32 offset⟩ := by
  simp only [enumFields, List.mem_cons, Prod.mk.injEq, List.not_mem_nil, or_false] at hmem
  rcases hmem with ⟨rfl, rfl, rfl, rfl⟩ | ⟨rfl, rfl, rfl, rfl⟩ | ⟨rfl, rfl, rfl, rfl⟩ | ⟨rfl, rfl, rfl, rfl⟩ | ⟨rfl, rfl, rfl, rfl⟩ | ⟨rfl, rfl, rfl, rfl⟩ |
    ⟨rfl, rfl, rfl, rfl⟩ | ⟨rfl, rfl, rfl, rfl⟩
  · rw [readFields_openSession, (flagAt_read body 2).error hout]; rfl
  · rw [readFields_setCellClass (ownerReservedOk_of_not (hl rfl) ho), (cellClassAt_read body 2).error hout]; rfl
  · rw [readFields_createQueue, (overflowAt_read body 4).error hout]; rfl
  · obtain ⟨v, hv⟩ := (overflowAt_read body 4).ok (hbefore 4 0 1 (by decide) (by decide))
    rw [readFields_createQueue, hv, (flagAt_read body 8).error hout]; rfl
  · rw [readFields_post, (flagAt_read body 1).error hout]; rfl
  · rw [readFields_setPolicy, (faultClassAt_read body 0).error hout]; rfl
  · obtain ⟨v, hv⟩ := (faultClassAt_read body 0).ok (hbefore 0 1 6 (by decide) (by decide))
    rw [readFields_setPolicy, hv, (policyAt_read body 1).error hout]; rfl
  · rw [readFields_hubReset, (scopeAt_read body 0).error hout]; rfl

/-- The kinds without an enumerated field. -/
def plainKinds : List Byte :=
  [0x02, 0x03, 0x04, 0x10, 0x11, 0x12, 0x18, 0x19, 0x1A, 0x1C, 0x1D, 0x21, 0x22, 0x23, 0x25, 0x26, 0x27, 0x31, 0x32, 0x33, 0x34, 0x36]

theorem readFields_plain (body : List Byte) : ∀ kind ∈ plainKinds, ∃ r, readFields kind body = .ok r ∧ requestKind r = kind := by
  simp only [plainKinds, List.forall_mem_cons]
  exact ⟨⟨_, rfl, rfl⟩, ⟨_, rfl, rfl⟩, ⟨_, rfl, rfl⟩, ⟨_, rfl, rfl⟩, ⟨_, rfl, rfl⟩, ⟨_, rfl, rfl⟩, ⟨_, rfl, rfl⟩, ⟨_, rfl, rfl⟩, ⟨_, rfl, rfl⟩,
    ⟨_, rfl, rfl⟩, ⟨_, rfl, rfl⟩, ⟨_, rfl, rfl⟩, ⟨_, rfl, rfl⟩, ⟨_, rfl, rfl⟩, ⟨_, rfl, rfl⟩, ⟨_, rfl, rfl⟩, ⟨_, rfl, rfl⟩, ⟨_, rfl, rfl⟩,
    ⟨_, rfl, rfl⟩, ⟨_, rfl, rfl⟩, ⟨_, rfl, rfl⟩, ⟨_, rfl, rfl⟩, fun _ h => absurd h List.not_mem_nil⟩

/-- A listed kind has no enumerated field, or is one of the six that have. -/
theorem kind_cases {e : Byte × Nat × Nat} (h : e ∈ bodyLengths) :
    e.1 ∈ plainKinds ∨ e.1 = 0x01 ∨ e.1 = 0x13 ∨ e.1 = 0x20 ∨ e.1 = 0x24 ∨ e.1 = 0x30 ∨ e.1 = 0x35 := by
  revert e
  decide

/-- With every field in its set, the body is a request of its kind. -/
theorem readFields_ok {e : Byte × Nat × Nat} (he : e ∈ bodyLengths) (hl : e.1 = 0x13 → body.length = 5) (ho : ¬OwnerSet e.1 body)
    (hin : ∀ offset low high, (e.1, offset, low, high) ∈ enumFields → InSet body offset low high) :
    ∃ r, readFields e.1 body = .ok r ∧ requestKind r = e.1 := by
  rcases kind_cases he with hk | hk | hk | hk | hk | hk | hk
  · exact readFields_plain body e.1 hk
  all_goals rw [hk] at hin ho hl ⊢
  · obtain ⟨v, hv⟩ := (flagAt_read body 2).ok (hin 2 0 1 (by decide))
    exact ⟨_, by rw [readFields_openSession, hv]; rfl, rfl⟩
  · obtain ⟨v, hv⟩ := (cellClassAt_read body 2).ok (hin 2 0 2 (by decide))
    exact ⟨_, by rw [readFields_setCellClass (ownerReservedOk_of_not (hl rfl) ho), hv]; rfl, rfl⟩
  · obtain ⟨v, hv⟩ := (overflowAt_read body 4).ok (hin 4 0 1 (by decide))
    obtain ⟨n, hn⟩ := (flagAt_read body 8).ok (hin 8 0 1 (by decide))
    exact ⟨_, by rw [readFields_createQueue, hv, hn]; rfl, rfl⟩
  · obtain ⟨v, hv⟩ := (flagAt_read body 1).ok (hin 1 0 1 (by decide))
    exact ⟨_, by rw [readFields_post, hv]; rfl, rfl⟩
  · obtain ⟨c, hc⟩ := (faultClassAt_read body 0).ok (hin 0 1 6 (by decide))
    obtain ⟨p, hp⟩ := (policyAt_read body 1).ok (hin 1 0 2 (by decide))
    exact ⟨_, by rw [readFields_setPolicy, hc, hp]; rfl, rfl⟩
  · obtain ⟨v, hv⟩ := (scopeAt_read body 0).ok (hin 0 0 1 (by decide))
    exact ⟨_, by rw [readFields_hubReset, hv]; rfl, rfl⟩

/-! ## Every fault of the body checks is a FORM fault -/

/-- What is refused is refused with a FORM fault of subject 0. -/
def FormOnly {α : Type} (x : Except HubFault α) : Prop := ∀ f, x = .error f → f.code.faultClass = .form ∧ f.subject = 0

theorem FormOnly.ok {α : Type} (v : α) : FormOnly (.ok v) := fun _ h => nomatch h

theorem FormOnly.error {α : Type} {code : FaultCode} {detail : Word} (h : code.faultClass = .form) :
    FormOnly (.error ⟨code, 0, detail⟩ : Except HubFault α) := fun _ hf => Except.error.inj hf ▸ ⟨h, rfl⟩

theorem FieldRead.bind {α β : Type} {x : Except HubFault α} (h : FieldRead x body offset low high) {g : α → Except HubFault β} (hg : ∀ v, FormOnly (g v)) :
    FormOnly (x >>= g) := by
  by_cases hin : InSet body offset low high
  · obtain ⟨v, rfl⟩ := h.ok hin
    exact hg v
  · rw [h.error hin]
    exact FormOnly.error rfl

theorem readFields_formOnly {e : Byte × Nat × Nat} (he : e ∈ bodyLengths) : FormOnly (readFields e.1 body) := by
  rcases kind_cases he with hk | hk | hk | hk | hk | hk | hk
  · obtain ⟨r, hr, -⟩ := readFields_plain body e.1 hk
    rw [hr]
    exact FormOnly.ok r
  all_goals rw [hk]
  · exact (flagAt_read body 2).bind fun _ => FormOnly.ok _
  · cases ho : ownerReservedOk body with
    | true =>
      rw [readFields_setCellClass ho]
      exact (cellClassAt_read body 2).bind fun _ => FormOnly.ok _
    | false =>
      have hset : readFields 0x13 body = .error (formFault .reservedSet 3) := if_neg (by rw [ho]; exact Bool.false_ne_true)
      rw [hset]
      exact FormOnly.error rfl
  · exact (overflowAt_read body 4).bind fun _ => (flagAt_read body 8).bind fun _ => FormOnly.ok _
  · exact (flagAt_read body 1).bind fun _ => FormOnly.ok _
  · exact (faultClassAt_read body 0).bind fun _ => (policyAt_read body 1).bind fun _ => FormOnly.ok _
  · exact (scopeAt_read body 0).bind fun _ => FormOnly.ok _

theorem checkBody_formOnly (kind : Byte) (body : List Byte) : FormOnly (checkBody kind body) := by
  by_cases hlisted : ∃ e ∈ bodyLengths, e.1 = kind
  · obtain ⟨e, he, rfl⟩ := hlisted
    have hrange : bodyRange e.1 = some (e.2.1, e.2.2) := bodyRange_of_mem e he
    by_cases hl : body.length < e.2.1 ∨ e.2.2 < body.length
    · rw [checkBody_outOfRange hrange hl]
      exact FormOnly.error rfl
    · rw [checkBody_inRange hrange (by omega) (by omega)]
      exact readFields_formOnly he
  · rw [checkBody_unknown (bodyRange_of_not_mem fun e he hk => hlisted ⟨e, he, hk⟩)]
    exact FormOnly.error rfl

end Sys2Proof.Machine

namespace Sys2Proof.Proofs

open Sys2Proof.Machine

/-- Settles O13: the kind, the length, the reserved field and the enumerated fields are checked in this order; each fault is answered at once. -/
theorem formFaultsAreRefusedAtOnce : Obligations.FormFaultsAreRefusedAtOnce := by
  refine ⟨?_, fun s l f r h => ?_, fun s l f e h => ?_⟩
  · intro lengths sets kind body inSet ownerSet
    refine ⟨fun h => checkBody_unknown (bodyRange_of_not_mem h), fun low high hmem => ?_, checkBody_formOnly kind body⟩
    have hrange : bodyRange kind = some (low, high) := bodyRange_of_mem _ hmem
    refine ⟨checkBody_outOfRange hrange, fun hl hh => ?_⟩
    rw [checkBody_inRange hrange hl hh]
    have hfive : kind = 0x13 → body.length = 5 := by
      rintro rfl
      obtain ⟨rfl, rfl⟩ := Prod.mk.inj (Option.some.inj (show some (5, 5) = some (low, high) from hrange))
      omega
    refine ⟨fun ho => ?_, fun ho offset least most hset hout hbefore => readFields_enumValue hfive ho hset hout hbefore,
      fun ho hin => readFields_ok hmem hfive ho hin⟩
    obtain rfl := ho.1
    exact readFields_ownerSet (hfive rfl) ho
  · simp only [State.checkAccepted, h]
    rfl
  · obtain ⟨hclass, -⟩ := checkBody_formOnly _ _ e h
    have hfields : faultFields e = [1, e.code.byte] ++ le 2 e.subject ++ le 4 e.detail := by rw [faultFields, hclass]; rfl
    simp only [State.checkAccepted, h, State.refuseForm, hfields]
    cases hs : s.session l with
    | none => rfl
    | some x => rfl

end Sys2Proof.Proofs
end
